-- ==== Sys2Proof/Word.lean ====
section
/-! DEFINITION. The word types of the machine: bytes, 16-bit words, and the DSP's signed 16-bit samples. -/

namespace Sys2Proof

/-- An 8-bit value: every CPU datum (R1, R31). -/
abbrev Byte := BitVec 8

/-- A 16-bit value: PC, addresses, YA (R35, R38). -/
abbrev Word := BitVec 16

/-- A signed 16-bit sample of the S-DSP, read as a number by `BitVec.toInt` (R73). -/
abbrev Sample := BitVec 16

end Sys2Proof
end

