-- ==== Sys2Proof/Syntax.lean ====
section
/-! DEFINITION. The instructions: one constructor per row of opcode_table.json (R164), those with operand
bytes first, each group in opcode order. Operand fields are
the fields of the encoding formats R151 to R160: `d`, `ds`, `dd` direct-page offsets, `i` an immediate, `a` an absolute
address, `rel` a displacement byte, `u` the low byte of a page-0xFF address, `m` and `b` the 13-bit address and the bit
number of `m.b`. Numbers embedded in the opcode (R161) are part of the constructor's name. -/

namespace Sys2Proof

/-- The 256 instructions. -/
inductive Instr
  /-- `SET1 d.0`, opcode 0x02 (R368). -/
  | set1B0 (d : Byte)
  /-- `BBS d.0,rel`, opcode 0x03 (R398). -/
  | bbsB0 (d : Byte) (rel : Byte)
  /-- `OR A,d`, opcode 0x04 (R245). -/
  | orADp (d : Byte)
  /-- `OR A,!a`, opcode 0x05 (R247). -/
  | orAAbs (a : Word)
  /-- `OR A,[d+X]`, opcode 0x07 (R250). -/
  | orAIndX (d : Byte)
  /-- `OR A,#i`, opcode 0x08 (R243). -/
  | orAImm (i : Byte)
  /-- `OR dd,ds`, opcode 0x09 (R253). -/
  | orDpDp (ds : Byte) (dd : Byte)
  /-- `OR1 C,m.b`, opcode 0x0A (R372). -/
  | or1CMb (m : Word) (b : Nat)
  /-- `ASL d`, opcode 0x0B (R327). -/
  | aslDp (d : Byte)
  /-- `ASL !a`, opcode 0x0C (R329). -/
  | aslAbs (a : Word)
  /-- `TSET1 !a`, opcode 0x0E (R370). -/
  | tset1Abs (a : Word)
  /-- `BPL rel`, opcode 0x10 (R397). -/
  | bpl (rel : Byte)
  /-- `CLR1 d.0`, opcode 0x12 (R369). -/
  | clr1B0 (d : Byte)
  /-- `BBC d.0,rel`, opcode 0x13 (R399). -/
  | bbcB0 (d : Byte) (rel : Byte)
  /-- `OR A,d+X`, opcode 0x14 (R246). -/
  | orADpX (d : Byte)
  /-- `OR A,!a+X`, opcode 0x15 (R248). -/
  | orAAbsX (a : Word)
  /-- `OR A,!a+Y`, opcode 0x16 (R249). -/
  | orAAbsY (a : Word)
  /-- `OR A,[d]+Y`, opcode 0x17 (R251). -/
  | orAIndY (d : Byte)
  /-- `OR d,#i`, opcode 0x18 (R254). -/
  | orDpImm (i : Byte) (d : Byte)
  /-- `DECW d`, opcode 0x1A (R359). -/
  | decwDp (d : Byte)
  /-- `ASL d+X`, opcode 0x1B (R328). -/
  | aslDpX (d : Byte)
  /-- `CMP X,!a`, opcode 0x1E (R321). -/
  | cmpXAbs (a : Word)
  /-- `JMP [!a+X]`, opcode 0x1F (R405). -/
  | jmpIndAbsX (a : Word)
  /-- `SET1 d.1`, opcode 0x22 (R368). -/
  | set1B1 (d : Byte)
  /-- `BBS d.1,rel`, opcode 0x23 (R398). -/
  | bbsB1 (d : Byte) (rel : Byte)
  /-- `AND A,d`, opcode 0x24 (R257). -/
  | andADp (d : Byte)
  /-- `AND A,!a`, opcode 0x25 (R259). -/
  | andAAbs (a : Word)
  /-- `AND A,[d+X]`, opcode 0x27 (R262). -/
  | andAIndX (d : Byte)
  /-- `AND A,#i`, opcode 0x28 (R255). -/
  | andAImm (i : Byte)
  /-- `AND dd,ds`, opcode 0x29 (R265). -/
  | andDpDp (ds : Byte) (dd : Byte)
  /-- `OR1 C,/m.b`, opcode 0x2A (R373). -/
  | or1CNotMb (m : Word) (b : Nat)
  /-- `ROL d`, opcode 0x2B (R331). -/
  | rolDp (d : Byte)
  /-- `ROL !a`, opcode 0x2C (R333). -/
  | rolAbs (a : Word)
  /-- `CBNE d,rel`, opcode 0x2E (R400). -/
  | cbneDp (d : Byte) (rel : Byte)
  /-- `BRA rel`, opcode 0x2F (R389). -/
  | bra (rel : Byte)
  /-- `BMI rel`, opcode 0x30 (R396). -/
  | bmi (rel : Byte)
  /-- `CLR1 d.1`, opcode 0x32 (R369). -/
  | clr1B1 (d : Byte)
  /-- `BBC d.1,rel`, opcode 0x33 (R399). -/
  | bbcB1 (d : Byte) (rel : Byte)
  /-- `AND A,d+X`, opcode 0x34 (R258). -/
  | andADpX (d : Byte)
  /-- `AND A,!a+X`, opcode 0x35 (R260). -/
  | andAAbsX (a : Word)
  /-- `AND A,!a+Y`, opcode 0x36 (R261). -/
  | andAAbsY (a : Word)
  /-- `AND A,[d]+Y`, opcode 0x37 (R263). -/
  | andAIndY (d : Byte)
  /-- `AND d,#i`, opcode 0x38 (R266). -/
  | andDpImm (i : Byte) (d : Byte)
  /-- `INCW d`, opcode 0x3A (R358). -/
  | incwDp (d : Byte)
  /-- `ROL d+X`, opcode 0x3B (R332). -/
  | rolDpX (d : Byte)
  /-- `CMP X,d`, opcode 0x3E (R320). -/
  | cmpXDp (d : Byte)
  /-- `CALL !a`, opcode 0x3F (R406). -/
  | callAbs (a : Word)
  /-- `SET1 d.2`, opcode 0x42 (R368). -/
  | set1B2 (d : Byte)
  /-- `BBS d.2,rel`, opcode 0x43 (R398). -/
  | bbsB2 (d : Byte) (rel : Byte)
  /-- `EOR A,d`, opcode 0x44 (R269). -/
  | eorADp (d : Byte)
  /-- `EOR A,!a`, opcode 0x45 (R271). -/
  | eorAAbs (a : Word)
  /-- `EOR A,[d+X]`, opcode 0x47 (R274). -/
  | eorAIndX (d : Byte)
  /-- `EOR A,#i`, opcode 0x48 (R267). -/
  | eorAImm (i : Byte)
  /-- `EOR dd,ds`, opcode 0x49 (R277). -/
  | eorDpDp (ds : Byte) (dd : Byte)
  /-- `AND1 C,m.b`, opcode 0x4A (R374). -/
  | and1CMb (m : Word) (b : Nat)
  /-- `LSR d`, opcode 0x4B (R335). -/
  | lsrDp (d : Byte)
  /-- `LSR !a`, opcode 0x4C (R337). -/
  | lsrAbs (a : Word)
  /-- `TCLR1 !a`, opcode 0x4E (R371). -/
  | tclr1Abs (a : Word)
  /-- `PCALL u`, opcode 0x4F (R407). -/
  | pcall (u : Byte)
  /-- `BVC rel`, opcode 0x50 (R395). -/
  | bvc (rel : Byte)
  /-- `CLR1 d.2`, opcode 0x52 (R369). -/
  | clr1B2 (d : Byte)
  /-- `BBC d.2,rel`, opcode 0x53 (R399). -/
  | bbcB2 (d : Byte) (rel : Byte)
  /-- `EOR A,d+X`, opcode 0x54 (R270). -/
  | eorADpX (d : Byte)
  /-- `EOR A,!a+X`, opcode 0x55 (R272). -/
  | eorAAbsX (a : Word)
  /-- `EOR A,!a+Y`, opcode 0x56 (R273). -/
  | eorAAbsY (a : Word)
  /-- `EOR A,[d]+Y`, opcode 0x57 (R275). -/
  | eorAIndY (d : Byte)
  /-- `EOR d,#i`, opcode 0x58 (R278). -/
  | eorDpImm (i : Byte) (d : Byte)
  /-- `CMPW YA,d`, opcode 0x5A (R362). -/
  | cmpwYADp (d : Byte)
  /-- `LSR d+X`, opcode 0x5B (R336). -/
  | lsrDpX (d : Byte)
  /-- `CMP Y,!a`, opcode 0x5E (R324). -/
  | cmpYAbs (a : Word)
  /-- `JMP !a`, opcode 0x5F (R404). -/
  | jmpAbs (a : Word)
  /-- `SET1 d.3`, opcode 0x62 (R368). -/
  | set1B3 (d : Byte)
  /-- `BBS d.3,rel`, opcode 0x63 (R398). -/
  | bbsB3 (d : Byte) (rel : Byte)
  /-- `CMP A,d`, opcode 0x64 (R285). -/
  | cmpADp (d : Byte)
  /-- `CMP A,!a`, opcode 0x65 (R287). -/
  | cmpAAbs (a : Word)
  /-- `CMP A,[d+X]`, opcode 0x67 (R290). -/
  | cmpAIndX (d : Byte)
  /-- `CMP A,#i`, opcode 0x68 (R283). -/
  | cmpAImm (i : Byte)
  /-- `CMP dd,ds`, opcode 0x69 (R293). -/
  | cmpDpDp (ds : Byte) (dd : Byte)
  /-- `AND1 C,/m.b`, opcode 0x6A (R375). -/
  | and1CNotMb (m : Word) (b : Nat)
  /-- `ROR d`, opcode 0x6B (R339). -/
  | rorDp (d : Byte)
  /-- `ROR !a`, opcode 0x6C (R341). -/
  | rorAbs (a : Word)
  /-- `DBNZ d,rel`, opcode 0x6E (R402). -/
  | dbnzDp (d : Byte) (rel : Byte)
  /-- `BVS rel`, opcode 0x70 (R394). -/
  | bvs (rel : Byte)
  /-- `CLR1 d.3`, opcode 0x72 (R369). -/
  | clr1B3 (d : Byte)
  /-- `BBC d.3,rel`, opcode 0x73 (R399). -/
  | bbcB3 (d : Byte) (rel : Byte)
  /-- `CMP A,d+X`, opcode 0x74 (R286). -/
  | cmpADpX (d : Byte)
  /-- `CMP A,!a+X`, opcode 0x75 (R288). -/
  | cmpAAbsX (a : Word)
  /-- `CMP A,!a+Y`, opcode 0x76 (R289). -/
  | cmpAAbsY (a : Word)
  /-- `CMP A,[d]+Y`, opcode 0x77 (R291). -/
  | cmpAIndY (d : Byte)
  /-- `CMP d,#i`, opcode 0x78 (R294). -/
  | cmpDpImm (i : Byte) (d : Byte)
  /-- `ADDW YA,d`, opcode 0x7A (R360). -/
  | addwYADp (d : Byte)
  /-- `ROR d+X`, opcode 0x7B (R340). -/
  | rorDpX (d : Byte)
  /-- `CMP Y,d`, opcode 0x7E (R323). -/
  | cmpYDp (d : Byte)
  /-- `SET1 d.4`, opcode 0x82 (R368). -/
  | set1B4 (d : Byte)
  /-- `BBS d.4,rel`, opcode 0x83 (R398). -/
  | bbsB4 (d : Byte) (rel : Byte)
  /-- `ADC A,d`, opcode 0x84 (R297). -/
  | adcADp (d : Byte)
  /-- `ADC A,!a`, opcode 0x85 (R299). -/
  | adcAAbs (a : Word)
  /-- `ADC A,[d+X]`, opcode 0x87 (R302). -/
  | adcAIndX (d : Byte)
  /-- `ADC A,#i`, opcode 0x88 (R295). -/
  | adcAImm (i : Byte)
  /-- `ADC dd,ds`, opcode 0x89 (R305). -/
  | adcDpDp (ds : Byte) (dd : Byte)
  /-- `EOR1 C,m.b`, opcode 0x8A (R376). -/
  | eor1CMb (m : Word) (b : Nat)
  /-- `DEC d`, opcode 0x8B (R343). -/
  | decDp (d : Byte)
  /-- `DEC !a`, opcode 0x8C (R345). -/
  | decAbs (a : Word)
  /-- `MOV Y,#i`, opcode 0x8D (R214). -/
  | movYImm (i : Byte)
  /-- `MOV d,#i`, opcode 0x8F (R241). -/
  | movDpImm (i : Byte) (d : Byte)
  /-- `BCC rel`, opcode 0x90 (R393). -/
  | bcc (rel : Byte)
  /-- `CLR1 d.4`, opcode 0x92 (R369). -/
  | clr1B4 (d : Byte)
  /-- `BBC d.4,rel`, opcode 0x93 (R399). -/
  | bbcB4 (d : Byte) (rel : Byte)
  /-- `ADC A,d+X`, opcode 0x94 (R298). -/
  | adcADpX (d : Byte)
  /-- `ADC A,!a+X`, opcode 0x95 (R300). -/
  | adcAAbsX (a : Word)
  /-- `ADC A,!a+Y`, opcode 0x96 (R301). -/
  | adcAAbsY (a : Word)
  /-- `ADC A,[d]+Y`, opcode 0x97 (R303). -/
  | adcAIndY (d : Byte)
  /-- `ADC d,#i`, opcode 0x98 (R306). -/
  | adcDpImm (i : Byte) (d : Byte)
  /-- `SUBW YA,d`, opcode 0x9A (R361). -/
  | subwYADp (d : Byte)
  /-- `DEC d+X`, opcode 0x9B (R344). -/
  | decDpX (d : Byte)
  /-- `SET1 d.5`, opcode 0xA2 (R368). -/
  | set1B5 (d : Byte)
  /-- `BBS d.5,rel`, opcode 0xA3 (R398). -/
  | bbsB5 (d : Byte) (rel : Byte)
  /-- `SBC A,d`, opcode 0xA4 (R309). -/
  | sbcADp (d : Byte)
  /-- `SBC A,!a`, opcode 0xA5 (R311). -/
  | sbcAAbs (a : Word)
  /-- `SBC A,[d+X]`, opcode 0xA7 (R314). -/
  | sbcAIndX (d : Byte)
  /-- `SBC A,#i`, opcode 0xA8 (R307). -/
  | sbcAImm (i : Byte)
  /-- `SBC dd,ds`, opcode 0xA9 (R317). -/
  | sbcDpDp (ds : Byte) (dd : Byte)
  /-- `MOV1 C,m.b`, opcode 0xAA (R377). -/
  | mov1CMb (m : Word) (b : Nat)
  /-- `INC d`, opcode 0xAB (R349). -/
  | incDp (d : Byte)
  /-- `INC !a`, opcode 0xAC (R351). -/
  | incAbs (a : Word)
  /-- `CMP Y,#i`, opcode 0xAD (R322). -/
  | cmpYImm (i : Byte)
  /-- `BCS rel`, opcode 0xB0 (R392). -/
  | bcs (rel : Byte)
  /-- `CLR1 d.5`, opcode 0xB2 (R369). -/
  | clr1B5 (d : Byte)
  /-- `BBC d.5,rel`, opcode 0xB3 (R399). -/
  | bbcB5 (d : Byte) (rel : Byte)
  /-- `SBC A,d+X`, opcode 0xB4 (R310). -/
  | sbcADpX (d : Byte)
  /-- `SBC A,!a+X`, opcode 0xB5 (R312). -/
  | sbcAAbsX (a : Word)
  /-- `SBC A,!a+Y`, opcode 0xB6 (R313). -/
  | sbcAAbsY (a : Word)
  /-- `SBC A,[d]+Y`, opcode 0xB7 (R315). -/
  | sbcAIndY (d : Byte)
  /-- `SBC d,#i`, opcode 0xB8 (R318). -/
  | sbcDpImm (i : Byte) (d : Byte)
  /-- `MOVW YA,d`, opcode 0xBA (R356). -/
  | movwYADp (d : Byte)
  /-- `INC d+X`, opcode 0xBB (R350). -/
  | incDpX (d : Byte)
  /-- `SET1 d.6`, opcode 0xC2 (R368). -/
  | set1B6 (d : Byte)
  /-- `BBS d.6,rel`, opcode 0xC3 (R398). -/
  | bbsB6 (d : Byte) (rel : Byte)
  /-- `MOV d,A`, opcode 0xC4 (R220). -/
  | movDpA (d : Byte)
  /-- `MOV !a,A`, opcode 0xC5 (R222). -/
  | movAbsA (a : Word)
  /-- `MOV [d+X],A`, opcode 0xC7 (R225). -/
  | movIndXA (d : Byte)
  /-- `CMP X,#i`, opcode 0xC8 (R319). -/
  | cmpXImm (i : Byte)
  /-- `MOV !a,X`, opcode 0xC9 (R229). -/
  | movAbsX (a : Word)
  /-- `MOV1 m.b,C`, opcode 0xCA (R378). -/
  | mov1MbC (m : Word) (b : Nat)
  /-- `MOV d,Y`, opcode 0xCB (R230). -/
  | movDpY (d : Byte)
  /-- `MOV !a,Y`, opcode 0xCC (R232). -/
  | movAbsY (a : Word)
  /-- `MOV X,#i`, opcode 0xCD (R210). -/
  | movXImm (i : Byte)
  /-- `BNE rel`, opcode 0xD0 (R391). -/
  | bne (rel : Byte)
  /-- `CLR1 d.6`, opcode 0xD2 (R369). -/
  | clr1B6 (d : Byte)
  /-- `BBC d.6,rel`, opcode 0xD3 (R399). -/
  | bbcB6 (d : Byte) (rel : Byte)
  /-- `MOV d+X,A`, opcode 0xD4 (R221). -/
  | movDpXA (d : Byte)
  /-- `MOV !a+X,A`, opcode 0xD5 (R223). -/
  | movAbsXA (a : Word)
  /-- `MOV !a+Y,A`, opcode 0xD6 (R224). -/
  | movAbsYA (a : Word)
  /-- `MOV [d]+Y,A`, opcode 0xD7 (R226). -/
  | movIndYA (d : Byte)
  /-- `MOV d,X`, opcode 0xD8 (R227). -/
  | movDpX (d : Byte)
  /-- `MOV d+Y,X`, opcode 0xD9 (R228). -/
  | movDpYX (d : Byte)
  /-- `MOVW d,YA`, opcode 0xDA (R357). -/
  | movwDpYA (d : Byte)
  /-- `MOV d+X,Y`, opcode 0xDB (R231). -/
  | movDpXY (d : Byte)
  /-- `CBNE d+X,rel`, opcode 0xDE (R401). -/
  | cbneDpX (d : Byte) (rel : Byte)
  /-- `SET1 d.7`, opcode 0xE2 (R368). -/
  | set1B7 (d : Byte)
  /-- `BBS d.7,rel`, opcode 0xE3 (R398). -/
  | bbsB7 (d : Byte) (rel : Byte)
  /-- `MOV A,d`, opcode 0xE4 (R203). -/
  | movADp (d : Byte)
  /-- `MOV A,!a`, opcode 0xE5 (R205). -/
  | movAAbs (a : Word)
  /-- `MOV A,[d+X]`, opcode 0xE7 (R208). -/
  | movAIndX (d : Byte)
  /-- `MOV A,#i`, opcode 0xE8 (R201). -/
  | movAImm (i : Byte)
  /-- `MOV X,!a`, opcode 0xE9 (R213). -/
  | movXAbs (a : Word)
  /-- `NOT1 m.b`, opcode 0xEA (R379). -/
  | not1Mb (m : Word) (b : Nat)
  /-- `MOV Y,d`, opcode 0xEB (R215). -/
  | movYDp (d : Byte)
  /-- `MOV Y,!a`, opcode 0xEC (R217). -/
  | movYAbs (a : Word)
  /-- `BEQ rel`, opcode 0xF0 (R390). -/
  | beq (rel : Byte)
  /-- `CLR1 d.7`, opcode 0xF2 (R369). -/
  | clr1B7 (d : Byte)
  /-- `BBC d.7,rel`, opcode 0xF3 (R399). -/
  | bbcB7 (d : Byte) (rel : Byte)
  /-- `MOV A,d+X`, opcode 0xF4 (R204). -/
  | movADpX (d : Byte)
  /-- `MOV A,!a+X`, opcode 0xF5 (R206). -/
  | movAAbsX (a : Word)
  /-- `MOV A,!a+Y`, opcode 0xF6 (R207). -/
  | movAAbsY (a : Word)
  /-- `MOV A,[d]+Y`, opcode 0xF7 (R209). -/
  | movAIndY (d : Byte)
  /-- `MOV X,d`, opcode 0xF8 (R211). -/
  | movXDp (d : Byte)
  /-- `MOV X,d+Y`, opcode 0xF9 (R212). -/
  | movXDpY (d : Byte)
  /-- `MOV dd,ds`, opcode 0xFA (R240). -/
  | movDpDp (ds : Byte) (dd : Byte)
  /-- `MOV Y,d+X`, opcode 0xFB (R216). -/
  | movYDpX (d : Byte)
  /-- `DBNZ Y,rel`, opcode 0xFE (R403). -/
  | dbnzY (rel : Byte)
  /-- `NOP`, opcode 0x00 (R420). -/
  | nop
  /-- `TCALL 0`, opcode 0x01 (R408). -/
  | tcall0
  /-- `OR A,(X)`, opcode 0x06 (R244). -/
  | orAIx
  /-- `PUSH PSW`, opcode 0x0D (R415). -/
  | pushPsw
  /-- `BRK`, opcode 0x0F (R409). -/
  | brk
  /-- `TCALL 1`, opcode 0x11 (R408). -/
  | tcall1
  /-- `OR (X),(Y)`, opcode 0x19 (R252). -/
  | orIxIy
  /-- `ASL A`, opcode 0x1C (R326). -/
  | aslA
  /-- `DEC X`, opcode 0x1D (R346). -/
  | decX
  /-- `CLRP`, opcode 0x20 (R384). -/
  | clrp
  /-- `TCALL 2`, opcode 0x21 (R408). -/
  | tcall2
  /-- `AND A,(X)`, opcode 0x26 (R256). -/
  | andAIx
  /-- `PUSH A`, opcode 0x2D (R412). -/
  | pushA
  /-- `TCALL 3`, opcode 0x31 (R408). -/
  | tcall3
  /-- `AND (X),(Y)`, opcode 0x39 (R264). -/
  | andIxIy
  /-- `ROL A`, opcode 0x3C (R330). -/
  | rolA
  /-- `INC X`, opcode 0x3D (R352). -/
  | incX
  /-- `SETP`, opcode 0x40 (R385). -/
  | setp
  /-- `TCALL 4`, opcode 0x41 (R408). -/
  | tcall4
  /-- `EOR A,(X)`, opcode 0x46 (R268). -/
  | eorAIx
  /-- `PUSH X`, opcode 0x4D (R413). -/
  | pushX
  /-- `TCALL 5`, opcode 0x51 (R408). -/
  | tcall5
  /-- `EOR (X),(Y)`, opcode 0x59 (R276). -/
  | eorIxIy
  /-- `LSR A`, opcode 0x5C (R334). -/
  | lsrA
  /-- `MOV X,A`, opcode 0x5D (R236). -/
  | movXA
  /-- `CLRC`, opcode 0x60 (R380). -/
  | clrc
  /-- `TCALL 6`, opcode 0x61 (R408). -/
  | tcall6
  /-- `CMP A,(X)`, opcode 0x66 (R284). -/
  | cmpAIx
  /-- `PUSH Y`, opcode 0x6D (R414). -/
  | pushY
  /-- `RET`, opcode 0x6F (R410). -/
  | ret
  /-- `TCALL 7`, opcode 0x71 (R408). -/
  | tcall7
  /-- `CMP (X),(Y)`, opcode 0x79 (R292). -/
  | cmpIxIy
  /-- `ROR A`, opcode 0x7C (R338). -/
  | rorA
  /-- `MOV A,X`, opcode 0x7D (R234). -/
  | movAX
  /-- `RETI`, opcode 0x7F (R411). -/
  | reti
  /-- `SETC`, opcode 0x80 (R381). -/
  | setc
  /-- `TCALL 8`, opcode 0x81 (R408). -/
  | tcall8
  /-- `ADC A,(X)`, opcode 0x86 (R296). -/
  | adcAIx
  /-- `POP PSW`, opcode 0x8E (R419). -/
  | popPsw
  /-- `TCALL 9`, opcode 0x91 (R408). -/
  | tcall9
  /-- `ADC (X),(Y)`, opcode 0x99 (R304). -/
  | adcIxIy
  /-- `DEC A`, opcode 0x9C (R342). -/
  | decA
  /-- `MOV X,SP`, opcode 0x9D (R238). -/
  | movXSp
  /-- `DIV YA,X`, opcode 0x9E (R364). -/
  | div
  /-- `XCN A`, opcode 0x9F (R354). -/
  | xcn
  /-- `EI`, opcode 0xA0 (R386). -/
  | ei
  /-- `TCALL 10`, opcode 0xA1 (R408). -/
  | tcall10
  /-- `SBC A,(X)`, opcode 0xA6 (R308). -/
  | sbcAIx
  /-- `POP A`, opcode 0xAE (R416). -/
  | popA
  /-- `MOV (X)+,A`, opcode 0xAF (R233). -/
  | movIxIncA
  /-- `TCALL 11`, opcode 0xB1 (R408). -/
  | tcall11
  /-- `SBC (X),(Y)`, opcode 0xB9 (R316). -/
  | sbcIxIy
  /-- `INC A`, opcode 0xBC (R348). -/
  | incA
  /-- `MOV SP,X`, opcode 0xBD (R239). -/
  | movSpX
  /-- `DAS A`, opcode 0xBE (R366). -/
  | das
  /-- `MOV A,(X)+`, opcode 0xBF (R218). -/
  | movAIxInc
  /-- `DI`, opcode 0xC0 (R387). -/
  | di
  /-- `TCALL 12`, opcode 0xC1 (R408). -/
  | tcall12
  /-- `MOV (X),A`, opcode 0xC6 (R219). -/
  | movIxA
  /-- `POP X`, opcode 0xCE (R417). -/
  | popX
  /-- `MUL YA`, opcode 0xCF (R363). -/
  | mul
  /-- `TCALL 13`, opcode 0xD1 (R408). -/
  | tcall13
  /-- `DEC Y`, opcode 0xDC (R347). -/
  | decY
  /-- `MOV A,Y`, opcode 0xDD (R235). -/
  | movAY
  /-- `DAA A`, opcode 0xDF (R365). -/
  | daa
  /-- `CLRV`, opcode 0xE0 (R383). -/
  | clrv
  /-- `TCALL 14`, opcode 0xE1 (R408). -/
  | tcall14
  /-- `MOV A,(X)`, opcode 0xE6 (R202). -/
  | movAIx
  /-- `NOTC`, opcode 0xED (R382). -/
  | notc
  /-- `POP Y`, opcode 0xEE (R418). -/
  | popY
  /-- `SLEEP`, opcode 0xEF (R421). -/
  | sleep
  /-- `TCALL 15`, opcode 0xF1 (R408). -/
  | tcall15
  /-- `INC Y`, opcode 0xFC (R353). -/
  | incY
  /-- `MOV Y,A`, opcode 0xFD (R237). -/
  | movYA
  /-- `STOP`, opcode 0xFF (R422). -/
  | stop
  deriving DecidableEq, Repr

end Sys2Proof
end

