-- ==== Sys2Proof/WellFormed.lean ====
section
/-! DEFINITION. Well-formed instructions: the fields an encoding can carry. Every byte and word field admits all its
values (R163); only the `m.b` forms have narrower fields (R159). -/

namespace Sys2Proof

/-- The fields of an `m.b` operand: a 13-bit address and a 3-bit bit number (R159; log entry 17). -/
def Instr.mbitFits (m : Word) (b : Nat) : Bool := decide (m ≤ 0x1FFF#16) && decide (b ≤ 7)

/-- The instruction has an encoding. Every constructor but the `m.b` forms always has one (R163). -/
def Instr.wellFormed (i : Instr) : Bool :=
  match i with
  | .nop => true
  | .tcall0 => true
  | .set1B0 _ => true
  | .bbsB0 _ _ => true
  | .orADp _ => true
  | .orAAbs _ => true
  | .orAIx => true
  | .orAIndX _ => true
  | .orAImm _ => true
  | .orDpDp _ _ => true
  | .or1CMb m b => Instr.mbitFits m b
  | .aslDp _ => true
  | .aslAbs _ => true
  | .pushPsw => true
  | .tset1Abs _ => true
  | .brk => true
  | .bpl _ => true
  | .tcall1 => true
  | .clr1B0 _ => true
  | .bbcB0 _ _ => true
  | .orADpX _ => true
  | .orAAbsX _ => true
  | .orAAbsY _ => true
  | .orAIndY _ => true
  | .orDpImm _ _ => true
  | .orIxIy => true
  | .decwDp _ => true
  | .aslDpX _ => true
  | .aslA => true
  | .decX => true
  | .cmpXAbs _ => true
  | .jmpIndAbsX _ => true
  | .clrp => true
  | .tcall2 => true
  | .set1B1 _ => true
  | .bbsB1 _ _ => true
  | .andADp _ => true
  | .andAAbs _ => true
  | .andAIx => true
  | .andAIndX _ => true
  | .andAImm _ => true
  | .andDpDp _ _ => true
  | .or1CNotMb m b => Instr.mbitFits m b
  | .rolDp _ => true
  | .rolAbs _ => true
  | .pushA => true
  | .cbneDp _ _ => true
  | .bra _ => true
  | .bmi _ => true
  | .tcall3 => true
  | .clr1B1 _ => true
  | .bbcB1 _ _ => true
  | .andADpX _ => true
  | .andAAbsX _ => true
  | .andAAbsY _ => true
  | .andAIndY _ => true
  | .andDpImm _ _ => true
  | .andIxIy => true
  | .incwDp _ => true
  | .rolDpX _ => true
  | .rolA => true
  | .incX => true
  | .cmpXDp _ => true
  | .callAbs _ => true
  | .setp => true
  | .tcall4 => true
  | .set1B2 _ => true
  | .bbsB2 _ _ => true
  | .eorADp _ => true
  | .eorAAbs _ => true
  | .eorAIx => true
  | .eorAIndX _ => true
  | .eorAImm _ => true
  | .eorDpDp _ _ => true
  | .and1CMb m b => Instr.mbitFits m b
  | .lsrDp _ => true
  | .lsrAbs _ => true
  | .pushX => true
  | .tclr1Abs _ => true
  | .pcall _ => true
  | .bvc _ => true
  | .tcall5 => true
  | .clr1B2 _ => true
  | .bbcB2 _ _ => true
  | .eorADpX _ => true
  | .eorAAbsX _ => true
  | .eorAAbsY _ => true
  | .eorAIndY _ => true
  | .eorDpImm _ _ => true
  | .eorIxIy => true
  | .cmpwYADp _ => true
  | .lsrDpX _ => true
  | .lsrA => true
  | .movXA => true
  | .cmpYAbs _ => true
  | .jmpAbs _ => true
  | .clrc => true
  | .tcall6 => true
  | .set1B3 _ => true
  | .bbsB3 _ _ => true
  | .cmpADp _ => true
  | .cmpAAbs _ => true
  | .cmpAIx => true
  | .cmpAIndX _ => true
  | .cmpAImm _ => true
  | .cmpDpDp _ _ => true
  | .and1CNotMb m b => Instr.mbitFits m b
  | .rorDp _ => true
  | .rorAbs _ => true
  | .pushY => true
  | .dbnzDp _ _ => true
  | .ret => true
  | .bvs _ => true
  | .tcall7 => true
  | .clr1B3 _ => true
  | .bbcB3 _ _ => true
  | .cmpADpX _ => true
  | .cmpAAbsX _ => true
  | .cmpAAbsY _ => true
  | .cmpAIndY _ => true
  | .cmpDpImm _ _ => true
  | .cmpIxIy => true
  | .addwYADp _ => true
  | .rorDpX _ => true
  | .rorA => true
  | .movAX => true
  | .cmpYDp _ => true
  | .reti => true
  | .setc => true
  | .tcall8 => true
  | .set1B4 _ => true
  | .bbsB4 _ _ => true
  | .adcADp _ => true
  | .adcAAbs _ => true
  | .adcAIx => true
  | .adcAIndX _ => true
  | .adcAImm _ => true
  | .adcDpDp _ _ => true
  | .eor1CMb m b => Instr.mbitFits m b
  | .decDp _ => true
  | .decAbs _ => true
  | .movYImm _ => true
  | .popPsw => true
  | .movDpImm _ _ => true
  | .bcc _ => true
  | .tcall9 => true
  | .clr1B4 _ => true
  | .bbcB4 _ _ => true
  | .adcADpX _ => true
  | .adcAAbsX _ => true
  | .adcAAbsY _ => true
  | .adcAIndY _ => true
  | .adcDpImm _ _ => true
  | .adcIxIy => true
  | .subwYADp _ => true
  | .decDpX _ => true
  | .decA => true
  | .movXSp => true
  | .div => true
  | .xcn => true
  | .ei => true
  | .tcall10 => true
  | .set1B5 _ => true
  | .bbsB5 _ _ => true
  | .sbcADp _ => true
  | .sbcAAbs _ => true
  | .sbcAIx => true
  | .sbcAIndX _ => true
  | .sbcAImm _ => true
  | .sbcDpDp _ _ => true
  | .mov1CMb m b => Instr.mbitFits m b
  | .incDp _ => true
  | .incAbs _ => true
  | .cmpYImm _ => true
  | .popA => true
  | .movIxIncA => true
  | .bcs _ => true
  | .tcall11 => true
  | .clr1B5 _ => true
  | .bbcB5 _ _ => true
  | .sbcADpX _ => true
  | .sbcAAbsX _ => true
  | .sbcAAbsY _ => true
  | .sbcAIndY _ => true
  | .sbcDpImm _ _ => true
  | .sbcIxIy => true
  | .movwYADp _ => true
  | .incDpX _ => true
  | .incA => true
  | .movSpX => true
  | .das => true
  | .movAIxInc => true
  | .di => true
  | .tcall12 => true
  | .set1B6 _ => true
  | .bbsB6 _ _ => true
  | .movDpA _ => true
  | .movAbsA _ => true
  | .movIxA => true
  | .movIndXA _ => true
  | .cmpXImm _ => true
  | .movAbsX _ => true
  | .mov1MbC m b => Instr.mbitFits m b
  | .movDpY _ => true
  | .movAbsY _ => true
  | .movXImm _ => true
  | .popX => true
  | .mul => true
  | .bne _ => true
  | .tcall13 => true
  | .clr1B6 _ => true
  | .bbcB6 _ _ => true
  | .movDpXA _ => true
  | .movAbsXA _ => true
  | .movAbsYA _ => true
  | .movIndYA _ => true
  | .movDpX _ => true
  | .movDpYX _ => true
  | .movwDpYA _ => true
  | .movDpXY _ => true
  | .decY => true
  | .movAY => true
  | .cbneDpX _ _ => true
  | .daa => true
  | .clrv => true
  | .tcall14 => true
  | .set1B7 _ => true
  | .bbsB7 _ _ => true
  | .movADp _ => true
  | .movAAbs _ => true
  | .movAIx => true
  | .movAIndX _ => true
  | .movAImm _ => true
  | .movXAbs _ => true
  | .not1Mb m b => Instr.mbitFits m b
  | .movYDp _ => true
  | .movYAbs _ => true
  | .notc => true
  | .popY => true
  | .sleep => true
  | .beq _ => true
  | .tcall15 => true
  | .clr1B7 _ => true
  | .bbcB7 _ _ => true
  | .movADpX _ => true
  | .movAAbsX _ => true
  | .movAAbsY _ => true
  | .movAIndY _ => true
  | .movXDp _ => true
  | .movXDpY _ => true
  | .movDpDp _ _ => true
  | .movYDpX _ => true
  | .incY => true
  | .movYA => true
  | .dbnzY _ => true
  | .stop => true

/-- Well-formedness as a proposition. -/
abbrev Instr.WellFormed (i : Instr) : Prop := i.wellFormed = true

end Sys2Proof
end

