-- ==== Sys2Proof/Decode.lean ====
section
/-! DEFINITION. Bytes to instructions (30_encoding.md R150 to R165), total on any bytes, and the encoder back to bytes. -/

namespace Sys2Proof

/-- The 16-bit value with the given high and low byte: `(hi << 8) | lo` (R5, R101). -/
def wordOf (hi lo : Byte) : Word := hi ++ lo

/-- Bits 7..0 of a word. -/
def loByte (w : Word) : Byte := w.extractLsb' 0 8

/-- Bits 15..8 of a word. -/
def hiByte (w : Word) : Byte := w.extractLsb' 8 8

/-- A byte as an unsigned word. -/
def zext16 (v : Byte) : Word := v.setWidth 16

/-- A displacement byte as a signed word: `sext_8` modulo 65536 (R5, R13; log entry 18). -/
def sext16 (v : Byte) : Word := v.signExtend 16

/-- The byte address of an `m.b` operand word: `w[12:0]` (R159). -/
def mbitAddress (w : Word) : Word := w &&& 0x1FFF#16

/-- The bit number of an `m.b` operand word: `w[15:13]` (R159). -/
def mbitNumber (w : Word) : Nat := w.toNat / 8192

/-- The operand word of an `m.b` operand: the bit number in bits 15..13 above the address (R159). -/
def mbitWord (m : Word) (b : Nat) : Word := BitVec.ofNat 16 (b * 8192) ||| m

/-- The instruction formats (R151 to R160). -/
inductive Format
  | impl
  | imm
  | dp
  | abs
  | rel
  | dpDp
  | dpImm
  | dpRel
  | mbit
  | upage
  deriving DecidableEq, Repr

/-- The length in bytes of an instruction of a format (R165). -/
def Format.length : Format → Nat
  | .impl => 1
  | .imm => 2
  | .dp => 2
  | .abs => 3
  | .rel => 2
  | .dpDp => 3
  | .dpImm => 3
  | .dpRel => 3
  | .mbit => 3
  | .upage => 2

/-- Why bytes give no instruction. -/
inductive DecodeError
  /-- There is no byte. -/
  | noBytes
  /-- The operand bytes of the opcode's format are not all there. -/
  | truncated
  /-- The opcode is not in the map; no opcode is (R163). -/
  | unassigned
  deriving DecidableEq, Repr

/-- The formats of opcodes 0x00 to 0x0F (opcode_table.json). -/
def formatRow0 : List Format :=
  [.impl, .impl, .dp, .dpRel, .dp, .abs, .impl, .dp,
   .imm, .dpDp, .mbit, .dp, .abs, .impl, .abs, .impl]

/-- The formats of opcodes 0x10 to 0x1F (opcode_table.json). -/
def formatRow1 : List Format :=
  [.rel, .impl, .dp, .dpRel, .dp, .abs, .abs, .dp,
   .dpImm, .impl, .dp, .dp, .impl, .impl, .abs, .abs]

/-- The formats of opcodes 0x20 to 0x2F (opcode_table.json). -/
def formatRow2 : List Format :=
  [.impl, .impl, .dp, .dpRel, .dp, .abs, .impl, .dp,
   .imm, .dpDp, .mbit, .dp, .abs, .impl, .dpRel, .rel]

/-- The formats of opcodes 0x30 to 0x3F (opcode_table.json). -/
def formatRow3 : List Format :=
  [.rel, .impl, .dp, .dpRel, .dp, .abs, .abs, .dp,
   .dpImm, .impl, .dp, .dp, .impl, .impl, .dp, .abs]

/-- The formats of opcodes 0x40 to 0x4F (opcode_table.json). -/
def formatRow4 : List Format :=
  [.impl, .impl, .dp, .dpRel, .dp, .abs, .impl, .dp,
   .imm, .dpDp, .mbit, .dp, .abs, .impl, .abs, .upage]

/-- The formats of opcodes 0x50 to 0x5F (opcode_table.json). -/
def formatRow5 : List Format :=
  [.rel, .impl, .dp, .dpRel, .dp, .abs, .abs, .dp,
   .dpImm, .impl, .dp, .dp, .impl, .impl, .abs, .abs]

/-- The formats of opcodes 0x60 to 0x6F (opcode_table.json). -/
def formatRow6 : List Format :=
  [.impl, .impl, .dp, .dpRel, .dp, .abs, .impl, .dp,
   .imm, .dpDp, .mbit, .dp, .abs, .impl, .dpRel, .impl]

/-- The formats of opcodes 0x70 to 0x7F (opcode_table.json). -/
def formatRow7 : List Format :=
  [.rel, .impl, .dp, .dpRel, .dp, .abs, .abs, .dp,
   .dpImm, .impl, .dp, .dp, .impl, .impl, .dp, .impl]

/-- The formats of opcodes 0x80 to 0x8F (opcode_table.json). -/
def formatRow8 : List Format :=
  [.impl, .impl, .dp, .dpRel, .dp, .abs, .impl, .dp,
   .imm, .dpDp, .mbit, .dp, .abs, .imm, .impl, .dpImm]

/-- The formats of opcodes 0x90 to 0x9F (opcode_table.json). -/
def formatRow9 : List Format :=
  [.rel, .impl, .dp, .dpRel, .dp, .abs, .abs, .dp,
   .dpImm, .impl, .dp, .dp, .impl, .impl, .impl, .impl]

/-- The formats of opcodes 0xA0 to 0xAF (opcode_table.json). -/
def formatRowA : List Format :=
  [.impl, .impl, .dp, .dpRel, .dp, .abs, .impl, .dp,
   .imm, .dpDp, .mbit, .dp, .abs, .imm, .impl, .impl]

/-- The formats of opcodes 0xB0 to 0xBF (opcode_table.json). -/
def formatRowB : List Format :=
  [.rel, .impl, .dp, .dpRel, .dp, .abs, .abs, .dp,
   .dpImm, .impl, .dp, .dp, .impl, .impl, .impl, .impl]

/-- The formats of opcodes 0xC0 to 0xCF (opcode_table.json). -/
def formatRowC : List Format :=
  [.impl, .impl, .dp, .dpRel, .dp, .abs, .impl, .dp,
   .imm, .abs, .mbit, .dp, .abs, .imm, .impl, .impl]

/-- The formats of opcodes 0xD0 to 0xDF (opcode_table.json). -/
def formatRowD : List Format :=
  [.rel, .impl, .dp, .dpRel, .dp, .abs, .abs, .dp,
   .dp, .dp, .dp, .dp, .impl, .impl, .dpRel, .impl]

/-- The formats of opcodes 0xE0 to 0xEF (opcode_table.json). -/
def formatRowE : List Format :=
  [.impl, .impl, .dp, .dpRel, .dp, .abs, .impl, .dp,
   .imm, .abs, .mbit, .dp, .abs, .impl, .impl, .impl]

/-- The formats of opcodes 0xF0 to 0xFF (opcode_table.json). -/
def formatRowF : List Format :=
  [.rel, .impl, .dp, .dpRel, .dp, .abs, .abs, .dp,
   .dp, .dp, .dpDp, .dp, .impl, .impl, .rel, .impl]

/-- The format map: row by the opcode's high nibble. -/
def formatMap : List (List Format) :=
  [formatRow0, formatRow1, formatRow2, formatRow3, formatRow4, formatRow5, formatRow6, formatRow7] ++
  [formatRow8, formatRow9, formatRowA, formatRowB, formatRowC, formatRowD, formatRowE, formatRowF]

/-- The format an opcode selects; a function of the opcode alone (R150). -/
def formatOf (op : Byte) : Option Format :=
  match formatMap[op.toNat / 16]? with
  | none => none
  | some row => row[op.toNat % 16]?

/-- Row 0x0 of the opcode map (R164), `b1` and `b2` being the bytes after the opcode. -/
def opcodeRow0 (b1 b2 : Byte) : List Instr :=
  [.nop, .tcall0, .set1B0 b1, .bbsB0 b1 b2, .orADp b1,
   .orAAbs (wordOf b2 b1), .orAIx, .orAIndX b1, .orAImm b1, .orDpDp b1 b2,
   .or1CMb (mbitAddress (wordOf b2 b1)) (mbitNumber (wordOf b2 b1)), .aslDp b1, .aslAbs (wordOf b2 b1), .pushPsw, .tset1Abs (wordOf b2 b1), .brk]

/-- Row 0x1 of the opcode map (R164), `b1` and `b2` being the bytes after the opcode. -/
def opcodeRow1 (b1 b2 : Byte) : List Instr :=
  [.bpl b1, .tcall1, .clr1B0 b1, .bbcB0 b1 b2, .orADpX b1,
   .orAAbsX (wordOf b2 b1), .orAAbsY (wordOf b2 b1), .orAIndY b1, .orDpImm b1 b2, .orIxIy,
   .decwDp b1, .aslDpX b1, .aslA, .decX, .cmpXAbs (wordOf b2 b1), .jmpIndAbsX (wordOf b2 b1)]

/-- Row 0x2 of the opcode map (R164), `b1` and `b2` being the bytes after the opcode. -/
def opcodeRow2 (b1 b2 : Byte) : List Instr :=
  [.clrp, .tcall2, .set1B1 b1, .bbsB1 b1 b2, .andADp b1,
   .andAAbs (wordOf b2 b1), .andAIx, .andAIndX b1, .andAImm b1, .andDpDp b1 b2,
   .or1CNotMb (mbitAddress (wordOf b2 b1)) (mbitNumber (wordOf b2 b1)), .rolDp b1, .rolAbs (wordOf b2 b1), .pushA, .cbneDp b1 b2, .bra b1]

/-- Row 0x3 of the opcode map (R164), `b1` and `b2` being the bytes after the opcode. -/
def opcodeRow3 (b1 b2 : Byte) : List Instr :=
  [.bmi b1, .tcall3, .clr1B1 b1, .bbcB1 b1 b2, .andADpX b1,
   .andAAbsX (wordOf b2 b1), .andAAbsY (wordOf b2 b1), .andAIndY b1, .andDpImm b1 b2, .andIxIy,
   .incwDp b1, .rolDpX b1, .rolA, .incX, .cmpXDp b1, .callAbs (wordOf b2 b1)]

/-- Row 0x4 of the opcode map (R164), `b1` and `b2` being the bytes after the opcode. -/
def opcodeRow4 (b1 b2 : Byte) : List Instr :=
  [.setp, .tcall4, .set1B2 b1, .bbsB2 b1 b2, .eorADp b1,
   .eorAAbs (wordOf b2 b1), .eorAIx, .eorAIndX b1, .eorAImm b1, .eorDpDp b1 b2,
   .and1CMb (mbitAddress (wordOf b2 b1)) (mbitNumber (wordOf b2 b1)), .lsrDp b1, .lsrAbs (wordOf b2 b1), .pushX, .tclr1Abs (wordOf b2 b1), .pcall b1]

/-- Row 0x5 of the opcode map (R164), `b1` and `b2` being the bytes after the opcode. -/
def opcodeRow5 (b1 b2 : Byte) : List Instr :=
  [.bvc b1, .tcall5, .clr1B2 b1, .bbcB2 b1 b2, .eorADpX b1,
   .eorAAbsX (wordOf b2 b1), .eorAAbsY (wordOf b2 b1), .eorAIndY b1, .eorDpImm b1 b2, .eorIxIy,
   .cmpwYADp b1, .lsrDpX b1, .lsrA, .movXA, .cmpYAbs (wordOf b2 b1), .jmpAbs (wordOf b2 b1)]

/-- Row 0x6 of the opcode map (R164), `b1` and `b2` being the bytes after the opcode. -/
def opcodeRow6 (b1 b2 : Byte) : List Instr :=
  [.clrc, .tcall6, .set1B3 b1, .bbsB3 b1 b2, .cmpADp b1,
   .cmpAAbs (wordOf b2 b1), .cmpAIx, .cmpAIndX b1, .cmpAImm b1, .cmpDpDp b1 b2,
   .and1CNotMb (mbitAddress (wordOf b2 b1)) (mbitNumber (wordOf b2 b1)), .rorDp b1, .rorAbs (wordOf b2 b1), .pushY, .dbnzDp b1 b2, .ret]

/-- Row 0x7 of the opcode map (R164), `b1` and `b2` being the bytes after the opcode. -/
def opcodeRow7 (b1 b2 : Byte) : List Instr :=
  [.bvs b1, .tcall7, .clr1B3 b1, .bbcB3 b1 b2, .cmpADpX b1,
   .cmpAAbsX (wordOf b2 b1), .cmpAAbsY (wordOf b2 b1), .cmpAIndY b1, .cmpDpImm b1 b2, .cmpIxIy,
   .addwYADp b1, .rorDpX b1, .rorA, .movAX, .cmpYDp b1, .reti]

/-- Row 0x8 of the opcode map (R164), `b1` and `b2` being the bytes after the opcode. -/
def opcodeRow8 (b1 b2 : Byte) : List Instr :=
  [.setc, .tcall8, .set1B4 b1, .bbsB4 b1 b2, .adcADp b1,
   .adcAAbs (wordOf b2 b1), .adcAIx, .adcAIndX b1, .adcAImm b1, .adcDpDp b1 b2,
   .eor1CMb (mbitAddress (wordOf b2 b1)) (mbitNumber (wordOf b2 b1)), .decDp b1, .decAbs (wordOf b2 b1), .movYImm b1, .popPsw, .movDpImm b1 b2]

/-- Row 0x9 of the opcode map (R164), `b1` and `b2` being the bytes after the opcode. -/
def opcodeRow9 (b1 b2 : Byte) : List Instr :=
  [.bcc b1, .tcall9, .clr1B4 b1, .bbcB4 b1 b2, .adcADpX b1,
   .adcAAbsX (wordOf b2 b1), .adcAAbsY (wordOf b2 b1), .adcAIndY b1, .adcDpImm b1 b2, .adcIxIy,
   .subwYADp b1, .decDpX b1, .decA, .movXSp, .div, .xcn]

/-- Row 0xA of the opcode map (R164), `b1` and `b2` being the bytes after the opcode. -/
def opcodeRowA (b1 b2 : Byte) : List Instr :=
  [.ei, .tcall10, .set1B5 b1, .bbsB5 b1 b2, .sbcADp b1,
   .sbcAAbs (wordOf b2 b1), .sbcAIx, .sbcAIndX b1, .sbcAImm b1, .sbcDpDp b1 b2,
   .mov1CMb (mbitAddress (wordOf b2 b1)) (mbitNumber (wordOf b2 b1)), .incDp b1, .incAbs (wordOf b2 b1), .cmpYImm b1, .popA, .movIxIncA]

/-- Row 0xB of the opcode map (R164), `b1` and `b2` being the bytes after the opcode. -/
def opcodeRowB (b1 b2 : Byte) : List Instr :=
  [.bcs b1, .tcall11, .clr1B5 b1, .bbcB5 b1 b2, .sbcADpX b1,
   .sbcAAbsX (wordOf b2 b1), .sbcAAbsY (wordOf b2 b1), .sbcAIndY b1, .sbcDpImm b1 b2, .sbcIxIy,
   .movwYADp b1, .incDpX b1, .incA, .movSpX, .das, .movAIxInc]

/-- Row 0xC of the opcode map (R164), `b1` and `b2` being the bytes after the opcode. -/
def opcodeRowC (b1 b2 : Byte) : List Instr :=
  [.di, .tcall12, .set1B6 b1, .bbsB6 b1 b2, .movDpA b1,
   .movAbsA (wordOf b2 b1), .movIxA, .movIndXA b1, .cmpXImm b1, .movAbsX (wordOf b2 b1),
   .mov1MbC (mbitAddress (wordOf b2 b1)) (mbitNumber (wordOf b2 b1)), .movDpY b1, .movAbsY (wordOf b2 b1), .movXImm b1, .popX, .mul]

/-- Row 0xD of the opcode map (R164), `b1` and `b2` being the bytes after the opcode. -/
def opcodeRowD (b1 b2 : Byte) : List Instr :=
  [.bne b1, .tcall13, .clr1B6 b1, .bbcB6 b1 b2, .movDpXA b1,
   .movAbsXA (wordOf b2 b1), .movAbsYA (wordOf b2 b1), .movIndYA b1, .movDpX b1, .movDpYX b1,
   .movwDpYA b1, .movDpXY b1, .decY, .movAY, .cbneDpX b1 b2, .daa]

/-- Row 0xE of the opcode map (R164), `b1` and `b2` being the bytes after the opcode. -/
def opcodeRowE (b1 b2 : Byte) : List Instr :=
  [.clrv, .tcall14, .set1B7 b1, .bbsB7 b1 b2, .movADp b1,
   .movAAbs (wordOf b2 b1), .movAIx, .movAIndX b1, .movAImm b1, .movXAbs (wordOf b2 b1),
   .not1Mb (mbitAddress (wordOf b2 b1)) (mbitNumber (wordOf b2 b1)), .movYDp b1, .movYAbs (wordOf b2 b1), .notc, .popY, .sleep]

/-- Row 0xF of the opcode map (R164), `b1` and `b2` being the bytes after the opcode. -/
def opcodeRowF (b1 b2 : Byte) : List Instr :=
  [.beq b1, .tcall15, .clr1B7 b1, .bbcB7 b1 b2, .movADpX b1,
   .movAAbsX (wordOf b2 b1), .movAAbsY (wordOf b2 b1), .movAIndY b1, .movXDp b1, .movXDpY b1,
   .movDpDp b1 b2, .movYDpX b1, .incY, .movYA, .dbnzY b1, .stop]

/-- The 16 x 16 opcode map (R164): row by the opcode's high nibble. -/
def opcodeMap (b1 b2 : Byte) : List (List Instr) :=
  [opcodeRow0 b1 b2, opcodeRow1 b1 b2, opcodeRow2 b1 b2, opcodeRow3 b1 b2, opcodeRow4 b1 b2, opcodeRow5 b1 b2] ++
  [opcodeRow6 b1 b2, opcodeRow7 b1 b2, opcodeRow8 b1 b2, opcodeRow9 b1 b2, opcodeRowA b1 b2, opcodeRowB b1 b2] ++
  [opcodeRowC b1 b2, opcodeRowD b1 b2, opcodeRowE b1 b2, opcodeRowF b1 b2]

/-- The instruction an opcode and its operand bytes stand for. -/
def instrOf (op b1 b2 : Byte) : Option Instr :=
  match (opcodeMap b1 b2)[op.toNat / 16]? with
  | none => none
  | some row => row[op.toNat % 16]?

/-- The instruction, or the opcode is not in the map. -/
def decoded (i : Option Instr) (rest : List Byte) : Except DecodeError (Instr × List Byte) :=
  match i with
  | none => .error .unassigned
  | some i => .ok (i, rest)

/-- Decode the instruction at the head of a list of bytes, in address order, and give the bytes after it (R150). Total:
it refuses by name. -/
def decode (bytes : List Byte) : Except DecodeError (Instr × List Byte) :=
  match bytes with
  | [] => .error .noBytes
  | op :: rest =>
    match formatOf op with
    | none => .error .unassigned
    | some f =>
      match f.length, rest with
      | 1, rest => decoded (instrOf op 0 0) rest
      | 2, b1 :: rest => decoded (instrOf op b1 0) rest
      | 3, b1 :: b2 :: rest => decoded (instrOf op b1 b2) rest
      | _, _ => .error .truncated

/-- The bytes of an instruction, in address order: the opcode and format columns of opcode_table.json, fields as R151 to
R161 place them. Meant for well-formed instructions. -/
def encode (i : Instr) : List Byte :=
  match i with
  | .nop => [0x00]
  | .tcall0 => [0x01]
  | .set1B0 d => [0x02, d]
  | .bbsB0 d rel => [0x03, d, rel]
  | .orADp d => [0x04, d]
  | .orAAbs a => [0x05, loByte a, hiByte a]
  | .orAIx => [0x06]
  | .orAIndX d => [0x07, d]
  | .orAImm i => [0x08, i]
  | .orDpDp ds dd => [0x09, ds, dd]
  | .or1CMb m b => [0x0A, loByte (mbitWord m b), hiByte (mbitWord m b)]
  | .aslDp d => [0x0B, d]
  | .aslAbs a => [0x0C, loByte a, hiByte a]
  | .pushPsw => [0x0D]
  | .tset1Abs a => [0x0E, loByte a, hiByte a]
  | .brk => [0x0F]
  | .bpl rel => [0x10, rel]
  | .tcall1 => [0x11]
  | .clr1B0 d => [0x12, d]
  | .bbcB0 d rel => [0x13, d, rel]
  | .orADpX d => [0x14, d]
  | .orAAbsX a => [0x15, loByte a, hiByte a]
  | .orAAbsY a => [0x16, loByte a, hiByte a]
  | .orAIndY d => [0x17, d]
  | .orDpImm i d => [0x18, i, d]
  | .orIxIy => [0x19]
  | .decwDp d => [0x1A, d]
  | .aslDpX d => [0x1B, d]
  | .aslA => [0x1C]
  | .decX => [0x1D]
  | .cmpXAbs a => [0x1E, loByte a, hiByte a]
  | .jmpIndAbsX a => [0x1F, loByte a, hiByte a]
  | .clrp => [0x20]
  | .tcall2 => [0x21]
  | .set1B1 d => [0x22, d]
  | .bbsB1 d rel => [0x23, d, rel]
  | .andADp d => [0x24, d]
  | .andAAbs a => [0x25, loByte a, hiByte a]
  | .andAIx => [0x26]
  | .andAIndX d => [0x27, d]
  | .andAImm i => [0x28, i]
  | .andDpDp ds dd => [0x29, ds, dd]
  | .or1CNotMb m b => [0x2A, loByte (mbitWord m b), hiByte (mbitWord m b)]
  | .rolDp d => [0x2B, d]
  | .rolAbs a => [0x2C, loByte a, hiByte a]
  | .pushA => [0x2D]
  | .cbneDp d rel => [0x2E, d, rel]
  | .bra rel => [0x2F, rel]
  | .bmi rel => [0x30, rel]
  | .tcall3 => [0x31]
  | .clr1B1 d => [0x32, d]
  | .bbcB1 d rel => [0x33, d, rel]
  | .andADpX d => [0x34, d]
  | .andAAbsX a => [0x35, loByte a, hiByte a]
  | .andAAbsY a => [0x36, loByte a, hiByte a]
  | .andAIndY d => [0x37, d]
  | .andDpImm i d => [0x38, i, d]
  | .andIxIy => [0x39]
  | .incwDp d => [0x3A, d]
  | .rolDpX d => [0x3B, d]
  | .rolA => [0x3C]
  | .incX => [0x3D]
  | .cmpXDp d => [0x3E, d]
  | .callAbs a => [0x3F, loByte a, hiByte a]
  | .setp => [0x40]
  | .tcall4 => [0x41]
  | .set1B2 d => [0x42, d]
  | .bbsB2 d rel => [0x43, d, rel]
  | .eorADp d => [0x44, d]
  | .eorAAbs a => [0x45, loByte a, hiByte a]
  | .eorAIx => [0x46]
  | .eorAIndX d => [0x47, d]
  | .eorAImm i => [0x48, i]
  | .eorDpDp ds dd => [0x49, ds, dd]
  | .and1CMb m b => [0x4A, loByte (mbitWord m b), hiByte (mbitWord m b)]
  | .lsrDp d => [0x4B, d]
  | .lsrAbs a => [0x4C, loByte a, hiByte a]
  | .pushX => [0x4D]
  | .tclr1Abs a => [0x4E, loByte a, hiByte a]
  | .pcall u => [0x4F, u]
  | .bvc rel => [0x50, rel]
  | .tcall5 => [0x51]
  | .clr1B2 d => [0x52, d]
  | .bbcB2 d rel => [0x53, d, rel]
  | .eorADpX d => [0x54, d]
  | .eorAAbsX a => [0x55, loByte a, hiByte a]
  | .eorAAbsY a => [0x56, loByte a, hiByte a]
  | .eorAIndY d => [0x57, d]
  | .eorDpImm i d => [0x58, i, d]
  | .eorIxIy => [0x59]
  | .cmpwYADp d => [0x5A, d]
  | .lsrDpX d => [0x5B, d]
  | .lsrA => [0x5C]
  | .movXA => [0x5D]
  | .cmpYAbs a => [0x5E, loByte a, hiByte a]
  | .jmpAbs a => [0x5F, loByte a, hiByte a]
  | .clrc => [0x60]
  | .tcall6 => [0x61]
  | .set1B3 d => [0x62, d]
  | .bbsB3 d rel => [0x63, d, rel]
  | .cmpADp d => [0x64, d]
  | .cmpAAbs a => [0x65, loByte a, hiByte a]
  | .cmpAIx => [0x66]
  | .cmpAIndX d => [0x67, d]
  | .cmpAImm i => [0x68, i]
  | .cmpDpDp ds dd => [0x69, ds, dd]
  | .and1CNotMb m b => [0x6A, loByte (mbitWord m b), hiByte (mbitWord m b)]
  | .rorDp d => [0x6B, d]
  | .rorAbs a => [0x6C, loByte a, hiByte a]
  | .pushY => [0x6D]
  | .dbnzDp d rel => [0x6E, d, rel]
  | .ret => [0x6F]
  | .bvs rel => [0x70, rel]
  | .tcall7 => [0x71]
  | .clr1B3 d => [0x72, d]
  | .bbcB3 d rel => [0x73, d, rel]
  | .cmpADpX d => [0x74, d]
  | .cmpAAbsX a => [0x75, loByte a, hiByte a]
  | .cmpAAbsY a => [0x76, loByte a, hiByte a]
  | .cmpAIndY d => [0x77, d]
  | .cmpDpImm i d => [0x78, i, d]
  | .cmpIxIy => [0x79]
  | .addwYADp d => [0x7A, d]
  | .rorDpX d => [0x7B, d]
  | .rorA => [0x7C]
  | .movAX => [0x7D]
  | .cmpYDp d => [0x7E, d]
  | .reti => [0x7F]
  | .setc => [0x80]
  | .tcall8 => [0x81]
  | .set1B4 d => [0x82, d]
  | .bbsB4 d rel => [0x83, d, rel]
  | .adcADp d => [0x84, d]
  | .adcAAbs a => [0x85, loByte a, hiByte a]
  | .adcAIx => [0x86]
  | .adcAIndX d => [0x87, d]
  | .adcAImm i => [0x88, i]
  | .adcDpDp ds dd => [0x89, ds, dd]
  | .eor1CMb m b => [0x8A, loByte (mbitWord m b), hiByte (mbitWord m b)]
  | .decDp d => [0x8B, d]
  | .decAbs a => [0x8C, loByte a, hiByte a]
  | .movYImm i => [0x8D, i]
  | .popPsw => [0x8E]
  | .movDpImm i d => [0x8F, i, d]
  | .bcc rel => [0x90, rel]
  | .tcall9 => [0x91]
  | .clr1B4 d => [0x92, d]
  | .bbcB4 d rel => [0x93, d, rel]
  | .adcADpX d => [0x94, d]
  | .adcAAbsX a => [0x95, loByte a, hiByte a]
  | .adcAAbsY a => [0x96, loByte a, hiByte a]
  | .adcAIndY d => [0x97, d]
  | .adcDpImm i d => [0x98, i, d]
  | .adcIxIy => [0x99]
  | .subwYADp d => [0x9A, d]
  | .decDpX d => [0x9B, d]
  | .decA => [0x9C]
  | .movXSp => [0x9D]
  | .div => [0x9E]
  | .xcn => [0x9F]
  | .ei => [0xA0]
  | .tcall10 => [0xA1]
  | .set1B5 d => [0xA2, d]
  | .bbsB5 d rel => [0xA3, d, rel]
  | .sbcADp d => [0xA4, d]
  | .sbcAAbs a => [0xA5, loByte a, hiByte a]
  | .sbcAIx => [0xA6]
  | .sbcAIndX d => [0xA7, d]
  | .sbcAImm i => [0xA8, i]
  | .sbcDpDp ds dd => [0xA9, ds, dd]
  | .mov1CMb m b => [0xAA, loByte (mbitWord m b), hiByte (mbitWord m b)]
  | .incDp d => [0xAB, d]
  | .incAbs a => [0xAC, loByte a, hiByte a]
  | .cmpYImm i => [0xAD, i]
  | .popA => [0xAE]
  | .movIxIncA => [0xAF]
  | .bcs rel => [0xB0, rel]
  | .tcall11 => [0xB1]
  | .clr1B5 d => [0xB2, d]
  | .bbcB5 d rel => [0xB3, d, rel]
  | .sbcADpX d => [0xB4, d]
  | .sbcAAbsX a => [0xB5, loByte a, hiByte a]
  | .sbcAAbsY a => [0xB6, loByte a, hiByte a]
  | .sbcAIndY d => [0xB7, d]
  | .sbcDpImm i d => [0xB8, i, d]
  | .sbcIxIy => [0xB9]
  | .movwYADp d => [0xBA, d]
  | .incDpX d => [0xBB, d]
  | .incA => [0xBC]
  | .movSpX => [0xBD]
  | .das => [0xBE]
  | .movAIxInc => [0xBF]
  | .di => [0xC0]
  | .tcall12 => [0xC1]
  | .set1B6 d => [0xC2, d]
  | .bbsB6 d rel => [0xC3, d, rel]
  | .movDpA d => [0xC4, d]
  | .movAbsA a => [0xC5, loByte a, hiByte a]
  | .movIxA => [0xC6]
  | .movIndXA d => [0xC7, d]
  | .cmpXImm i => [0xC8, i]
  | .movAbsX a => [0xC9, loByte a, hiByte a]
  | .mov1MbC m b => [0xCA, loByte (mbitWord m b), hiByte (mbitWord m b)]
  | .movDpY d => [0xCB, d]
  | .movAbsY a => [0xCC, loByte a, hiByte a]
  | .movXImm i => [0xCD, i]
  | .popX => [0xCE]
  | .mul => [0xCF]
  | .bne rel => [0xD0, rel]
  | .tcall13 => [0xD1]
  | .clr1B6 d => [0xD2, d]
  | .bbcB6 d rel => [0xD3, d, rel]
  | .movDpXA d => [0xD4, d]
  | .movAbsXA a => [0xD5, loByte a, hiByte a]
  | .movAbsYA a => [0xD6, loByte a, hiByte a]
  | .movIndYA d => [0xD7, d]
  | .movDpX d => [0xD8, d]
  | .movDpYX d => [0xD9, d]
  | .movwDpYA d => [0xDA, d]
  | .movDpXY d => [0xDB, d]
  | .decY => [0xDC]
  | .movAY => [0xDD]
  | .cbneDpX d rel => [0xDE, d, rel]
  | .daa => [0xDF]
  | .clrv => [0xE0]
  | .tcall14 => [0xE1]
  | .set1B7 d => [0xE2, d]
  | .bbsB7 d rel => [0xE3, d, rel]
  | .movADp d => [0xE4, d]
  | .movAAbs a => [0xE5, loByte a, hiByte a]
  | .movAIx => [0xE6]
  | .movAIndX d => [0xE7, d]
  | .movAImm i => [0xE8, i]
  | .movXAbs a => [0xE9, loByte a, hiByte a]
  | .not1Mb m b => [0xEA, loByte (mbitWord m b), hiByte (mbitWord m b)]
  | .movYDp d => [0xEB, d]
  | .movYAbs a => [0xEC, loByte a, hiByte a]
  | .notc => [0xED]
  | .popY => [0xEE]
  | .sleep => [0xEF]
  | .beq rel => [0xF0, rel]
  | .tcall15 => [0xF1]
  | .clr1B7 d => [0xF2, d]
  | .bbcB7 d rel => [0xF3, d, rel]
  | .movADpX d => [0xF4, d]
  | .movAAbsX a => [0xF5, loByte a, hiByte a]
  | .movAAbsY a => [0xF6, loByte a, hiByte a]
  | .movAIndY d => [0xF7, d]
  | .movXDp d => [0xF8, d]
  | .movXDpY d => [0xF9, d]
  | .movDpDp ds dd => [0xFA, ds, dd]
  | .movYDpX d => [0xFB, d]
  | .incY => [0xFC]
  | .movYA => [0xFD]
  | .dbnzY rel => [0xFE, rel]
  | .stop => [0xFF]

/-- Byte k of a number, byte 0 the least significant. -/
def byteAt (w k : Nat) : Byte := BitVec.ofNat 8 (w / 256 ^ k)

/-- The instruction bytes of a word numbered as opcode_table.json numbers it: bits above `nbits` are 0; three bytes, the
longest instruction. -/
def tableBytes (nbits w : Nat) : List Byte :=
  [byteAt (w % 2 ^ nbits) 0, byteAt (w % 2 ^ nbits) 1, byteAt (w % 2 ^ nbits) 2]

/-- The instruction the decoder reads from a word of opcode_table.json's numbering. -/
def decodeTableWord (nbits w : Nat) : Option Instr :=
  match decode (tableBytes nbits w) with
  | .error _ => none
  | .ok r => some r.1

end Sys2Proof
end

