-- ==== Sys2Proof/Machine/Flags.lean ====
section
/-! DEFINITION. PSW and every flag computation of the spec (R36, R37, R12, R279 to R281 and the shift, word, multiply,
divide, decimal and bit rules), as functions of bytes: each takes the PSW before and gives the result and the PSW after. -/

namespace Sys2Proof.Machine

open Sys2Proof

/-- The eight flags of PSW (R36). -/
inductive Flag
  | n
  | v
  | p
  | b
  | h
  | i
  | z
  | c
  deriving DecidableEq, Repr

/-- The bit of PSW that holds a flag (R36). -/
def Flag.bit : Flag → Nat
  | .n => 7
  | .v => 6
  | .p => 5
  | .b => 4
  | .h => 3
  | .i => 2
  | .z => 1
  | .c => 0

/-- The flag's value in a PSW byte. -/
def getFlag (psw : Byte) (f : Flag) : Bool := psw.getLsbD f.bit

/-- The byte with a bit set or cleared, the other seven unchanged. -/
def withBit (v : Byte) (k : Nat) (x : Bool) : Byte :=
  if x then v ||| (1#8 <<< k) else v &&& ~~~(1#8 <<< k)

/-- The PSW byte with one flag written, the other seven unchanged (R7). -/
def setFlag (psw : Byte) (f : Flag) (x : Bool) : Byte := withBit psw f.bit x

/-- `SetNZ8(v)` (R12). -/
def setNZ8 (psw v : Byte) : Byte := setFlag (setFlag psw .n (v.getLsbD 7)) .z (v == 0)

/-- `SetNZ16(v)` (R12). -/
def setNZ16 (psw : Byte) (v : Word) : Byte := setFlag (setFlag psw .n (v.getLsbD 15)) .z (v == 0)

/-- A bit as a number. -/
def bitNat (x : Bool) : Nat := if x then 1 else 0

/-- `ADC8(a, b)` (R279): the result and the PSW with C, V, H, N, Z written. -/
def adc8 (psw a b : Byte) : Byte × Byte :=
  let s := a.toNat + b.toNat + bitNat (getFlag psw .c)
  let r := BitVec.ofNat 8 s
  let psw := setFlag psw .c (decide (s > 0xFF))
  let psw := setFlag psw .v (((a ^^^ b ^^^ 0xFF#8) &&& (a ^^^ r)).getLsbD 7)
  let psw := setFlag psw .h ((a ^^^ b ^^^ r).getLsbD 4)
  (r, setNZ8 psw r)

/-- `SBC8(a, b)` (R280). -/
def sbc8 (psw a b : Byte) : Byte × Byte := adc8 psw a (b ^^^ 0xFF#8)

/-- `CMP8(a, b)` (R281): the PSW with C, N, Z written. -/
def cmp8 (psw a b : Byte) : Byte := setNZ8 (setFlag psw .c (decide (b.toNat ≤ a.toNat))) (a - b)

/-- OR (R242). -/
def or8 (psw a b : Byte) : Byte × Byte := (a ||| b, setNZ8 psw (a ||| b))

/-- AND (R242). -/
def and8 (psw a b : Byte) : Byte × Byte := (a &&& b, setNZ8 psw (a &&& b))

/-- EOR (R242). -/
def eor8 (psw a b : Byte) : Byte × Byte := (a ^^^ b, setNZ8 psw (a ^^^ b))

/-- ASL (R326): bit 7 to C, bit 0 becomes 0. -/
def asl8 (psw v : Byte) : Byte × Byte :=
  let r := v <<< 1
  (r, setNZ8 (setFlag psw .c (v.getLsbD 7)) r)

/-- ROL (R330): bit 7 to C, the old C to bit 0. -/
def rol8 (psw v : Byte) : Byte × Byte :=
  let r := withBit (v <<< 1) 0 (getFlag psw .c)
  (r, setNZ8 (setFlag psw .c (v.getLsbD 7)) r)

/-- LSR (R334): bit 0 to C, bit 7 becomes 0. -/
def lsr8 (psw v : Byte) : Byte × Byte :=
  let r := v >>> 1
  (r, setNZ8 (setFlag psw .c (v.getLsbD 0)) r)

/-- ROR (R338): bit 0 to C, the old C to bit 7. -/
def ror8 (psw v : Byte) : Byte × Byte :=
  let r := withBit (v >>> 1) 7 (getFlag psw .c)
  (r, setNZ8 (setFlag psw .c (v.getLsbD 0)) r)

/-- INC (R348), modulo 256. -/
def inc8 (psw v : Byte) : Byte × Byte := (v + 1, setNZ8 psw (v + 1))

/-- DEC (R342), modulo 256. -/
def dec8 (psw v : Byte) : Byte × Byte := (v - 1, setNZ8 psw (v - 1))

/-- XCN (R354): the nibbles exchanged. -/
def xcn8 (psw v : Byte) : Byte × Byte :=
  let r := (v <<< 4) ||| (v >>> 4)
  (r, setNZ8 psw r)

/-- ADDW (R360). -/
def addw16 (psw : Byte) (ya w : Word) : Word × Byte :=
  let s := ya.toNat + w.toNat
  let r := BitVec.ofNat 16 s
  let psw := setFlag psw .c (decide (s > 0xFFFF))
  let psw := setFlag psw .v (((ya ^^^ w ^^^ 0xFFFF#16) &&& (ya ^^^ r)).getLsbD 15)
  let psw := setFlag psw .h ((ya ^^^ w ^^^ r).getLsbD 12)
  (r, setNZ16 psw r)

/-- SUBW (R361). -/
def subw16 (psw : Byte) (ya w : Word) : Word × Byte :=
  let r := ya - w
  let psw := setFlag psw .c (decide (w.toNat ≤ ya.toNat))
  let psw := setFlag psw .v (((ya ^^^ w) &&& (ya ^^^ r)).getLsbD 15)
  let psw := setFlag psw .h (!(ya ^^^ w ^^^ r).getLsbD 12)
  (r, setNZ16 psw r)

/-- CMPW (R362). -/
def cmpw16 (psw : Byte) (ya w : Word) : Byte :=
  setNZ16 (setFlag psw .c (decide (w.toNat ≤ ya.toNat))) (ya - w)

/-- MUL (R363): the 16-bit product; N and Z from its high byte. -/
def mul8 (psw y a : Byte) : Word × Byte :=
  let p := BitVec.ofNat 16 (y.toNat * a.toNat)
  (p, setNZ8 psw (hiByte p))

/-- DIV's quotient (R364), before it is cut to eight bits. -/
def divQuotient (ya : Nat) (y x : Byte) : Nat :=
  if y.toNat < x.toNat * 2 then ya / x.toNat
  else 255 - (ya - x.toNat * 512) / (256 - x.toNat)

/-- DIV's remainder (R364), before it is cut to eight bits. -/
def divRemainder (ya : Nat) (y x : Byte) : Nat :=
  if y.toNat < x.toNat * 2 then ya % x.toNat
  else x.toNat + (ya - x.toNat * 512) % (256 - x.toNat)

/-- DIV (R364): the word with the remainder in its high byte and the quotient in its low byte. In the
second branch of the quotient the subtracted number is at most 255, so the subtraction over naturals is exact. -/
def div8 (psw y a x : Byte) : Word × Byte :=
  let ya := (wordOf y a).toNat
  let psw := setFlag psw .v (decide (x.toNat ≤ y.toNat))
  let psw := setFlag psw .h (decide (x.toNat % 16 ≤ y.toNat % 16))
  let q := BitVec.ofNat 8 (divQuotient ya y x)
  let r := BitVec.ofNat 8 (divRemainder ya y x)
  (wordOf r q, setNZ8 psw q)

/-- DAA (R365). -/
def daa8 (psw a : Byte) : Byte × Byte :=
  let high := getFlag psw .c || decide (a.toNat > 0x99)
  let t := if high then a + 0x60#8 else a
  let psw := if high then setFlag psw .c true else psw
  let t := if getFlag psw .h || decide (t.toNat % 16 > 9) then t + 0x06#8 else t
  (t, setNZ8 psw t)

/-- DAS (R366). -/
def das8 (psw a : Byte) : Byte × Byte :=
  let high := !getFlag psw .c || decide (a.toNat > 0x99)
  let t := if high then a - 0x60#8 else a
  let psw := if high then setFlag psw .c false else psw
  let t := if !getFlag psw .h || decide (t.toNat % 16 > 9) then t - 0x06#8 else t
  (t, setNZ8 psw t)

/-- The flags of TSET1 and TCLR1 (R370, R371): N and Z from A minus the byte. -/
def testFlags (psw a m : Byte) : Byte := setNZ8 psw (a - m)

end Sys2Proof.Machine
end

