-- ==== Sys2Proof/Config.lean ====
section
/-! DEFINITION. The three parameters of the machine (00_scope.md R4): the boot ROM, the dummy read of a store,
and the pitch interpolator. -/

namespace Sys2Proof.Config

/-- `IPL_ROM` (R106): 64 bytes, read by the CPU at 0xFFC0..0xFFFF while CONTROL bit 7 = 1. The default contents the
spec lists (log entry 7: UNVERIFIED, the spec calls the bytes unaudited). -/
def iplRom : List Byte :=
  [0xCD, 0xEF, 0xBD, 0xE8, 0x00, 0xC6, 0x1D, 0xD0, 0xFC, 0x8F, 0xAA, 0xF4, 0x8F, 0xBB, 0xF5, 0x78] ++
  [0xCC, 0xF4, 0xD0, 0xFB, 0x2F, 0x19, 0xEB, 0xF4, 0xD0, 0xFC, 0x7E, 0xF4, 0xD0, 0x0B, 0xE4, 0xF5] ++
  [0xCB, 0xF4, 0xD7, 0x00, 0xFC, 0xD0, 0xF3, 0xAB, 0x01, 0x10, 0xEF, 0x7E, 0xF4, 0x10, 0xEB, 0xBA] ++
  [0xF6, 0xDA, 0x00, 0xBA, 0xF4, 0xC4, 0xF4, 0xDD, 0x5D, 0xD0, 0xDB, 0x1F, 0x00, 0x00, 0xC0, 0xFF]

/-- `STORE_DUMMY_READ` (R124, decision D14): whether a store reads its destination first. Uninterpreted: a claim holds
for both settings (log entry 6). -/
opaque storeDummyRead : Bool

/-- `INTERP` (R540, decision D34, OPEN): four consecutive samples, oldest first, and an 8-bit fraction to one sample.
Uninterpreted: no property of it is assumed (log entry 5). -/
opaque interp : Sample → Sample → Sample → Sample → Byte → Sample

end Sys2Proof.Config
end

