-- ==== Sys2Proof/Machine/State.lean ====
section
/-! DEFINITION. The whole state of the machine (10_state.md R30 to R83), its value after `reset` (70_reset_and_hazards.md
R700), and the reasons a step can stop. -/

namespace Sys2Proof.Machine

open Sys2Proof

/-- `cpu_run` (R39). -/
inductive CpuRun
  | running
  | sleeping
  | stopped
  deriving DecidableEq, Repr

/-- The reason inside `EmulationFault(reason)`: exactly the three causes of R640. -/
inductive EmuFault
  /-- SLEEP (R421, R655). -/
  | sleeping
  /-- STOP (R422, R655). -/
  | stopped
  /-- A write of a value other than 0x0A to TEST (R110). -/
  | testWrite
  deriving DecidableEq, Repr

/-- `lifecycle` (R80). It gates nothing (R630). -/
inductive Lifecycle
  | uninitialized
  | loaded
  | running
  deriving DecidableEq, Repr

/-- The five envelope phases (R522). -/
inductive EnvMode
  | attack
  | decay
  | sustain
  | release
  | off
  deriving DecidableEq, Repr

/-- One stereo frame: left, right (R610); also one entry of the FIR history (R78). -/
structure Frame where
  l : Sample
  r : Sample
  deriving DecidableEq, Repr

/-- The byte-addressed memory as (address, byte) cells; an unlisted address reads as 0x00 (R701). The canonical form is
`Memory.wf` in Machine/Memory.lean. -/
abbrev Memory := List Host.Cell

/-- The CPU registers and run state (R31 to R39). -/
structure Cpu where
  a : Byte
  x : Byte
  y : Byte
  sp : Byte
  pc : Word
  psw : Byte
  run : CpuRun
  deriving DecidableEq, Repr

/-- The I/O registers and the timers' internals (R42 to R51). -/
structure Io where
  test : Byte
  control : Byte
  dspAddr : Byte
  cpuioIn : Vector Byte 4
  cpuioOut : Vector Byte 4
  tTarget : Vector Byte 3
  tDiv : Vector Byte 3
  tOut : Vector (BitVec 4) 3
  deriving DecidableEq, Repr

/-- The internal state of one DSP voice (R73). -/
structure Voice where
  brrAddr : Word
  brrOffset : Nat
  buf : Vector Sample 12
  bufPos : Nat
  interpPos : Nat
  mode : EnvMode
  level : Nat
  konDelay : Nat
  out : Sample
  deriving DecidableEq, Repr

/-- The S-DSP: its 128 registers (R53 to R72) and its internal state (R73 to R78). -/
structure Dsp where
  regs : Vector Byte 128
  voices : Vector Voice 8
  everyOther : Bool
  konLatch : Byte
  konNow : Byte
  koffNow : Byte
  rateCounter : Nat
  noise : BitVec 15
  echoOffset : Nat
  echoLength : Nat
  firHist : Vector Frame 8
  deriving DecidableEq, Repr

/-- The state of the machine (R30). `cycles` and `frame` are the model's own (log entry 1). -/
structure State where
  cpu : Cpu
  ram : Memory
  io : Io
  clk : Nat
  dsp : Dsp
  fault : Option EmuFault
  lifecycle : Lifecycle
  muteMask : Byte
  /-- What the last instruction's `Cycles(n)` recorded (R14). -/
  cycles : Nat
  /-- The frame the last RunStep emitted, if a tick fell in it (R610). -/
  frame : Option Frame
  deriving DecidableEq, Repr

/-- Why a step stops the machine. -/
inductive Fault
  /-- Raised by `step` in a state whose `fault` is set: `RunStep` is not called there and `play`/`skip` return
  EmulationFault (R602, R603, R640). Safe: the machine takes no step. -/
  | emulationFault (r : EmuFault)
  /-- Raised by `step` in a state whose CPU is not Running although no fault is set, where `RunStep` may not be called
  (R602); no run reaches such a state. Safe: the machine takes no step. -/
  | notRunning
  /-- Raised by `step` if the decoder refuses three bytes, which it never does (R163). Safe. -/
  | undecodable
  deriving DecidableEq, Repr

/-- Why an instruction has no meaning. -/
inductive Refusal
  /-- An instruction this model gives no meaning yet; raised by an arm of `exec` only. Safe. No arm raises it. -/
  | notModelled (mnemonic : String)
  deriving DecidableEq, Repr

/-- A voice after reset (R73, R700). -/
def Voice.reset : Voice where
  brrAddr := 0x0000
  brrOffset := 1
  buf := Vector.replicate 12 0
  bufPos := 0
  interpPos := 0
  mode := .off
  level := 0
  konDelay := 0
  out := 0

/-- The CPU after reset (R700). -/
def Cpu.reset : Cpu where
  a := 0x00
  x := 0x00
  y := 0x00
  sp := 0x00
  pc := 0xFFC0
  psw := 0x00
  run := .running

/-- The I/O registers and timers after reset (R700). -/
def Io.reset : Io where
  test := 0x0A
  control := 0xB0
  dspAddr := 0x00
  cpuioIn := Vector.replicate 4 0x00
  cpuioOut := Vector.replicate 4 0x00
  tTarget := Vector.replicate 3 0x00
  tDiv := Vector.replicate 3 0x00
  tOut := Vector.replicate 3 0xF

/-- The S-DSP after reset: every register 0x00 except FLG = 0xE0 (R700). -/
def Dsp.reset : Dsp where
  regs := (Vector.replicate 128 0x00).set 0x6C 0xE0
  voices := Vector.replicate 8 Voice.reset
  everyOther := true
  konLatch := 0x00
  konNow := 0x00
  koffNow := 0x00
  rateCounter := 0
  noise := 0x4000
  echoOffset := 0
  echoLength := 0
  firHist := Vector.replicate 8 ⟨0, 0⟩

/-- The machine right after `reset` (R700, R83). `reset` keeps `mute_mask`; here it has its value at construction, 0x00
(R82, log entry 2). -/
def State.reset : State where
  cpu := Cpu.reset
  ram := []
  io := Io.reset
  clk := 0
  dsp := Dsp.reset
  fault := none
  lifecycle := .loaded
  muteMask := 0x00
  cycles := 0
  frame := none

end Sys2Proof.Machine
end

