-- ==== Sys2Proof/Machine/Memory.lean ====
section
/-! DEFINITION. The operations of memory as (address, byte) cells in one canonical form. -/

namespace Sys2Proof.Machine

open Sys2Proof

/-- The canonical form: addresses strictly rising, each inside the 64 KiB space (R40), and no cell equal to what an
unlisted address reads as (0x00, R701). -/
abbrev Memory.wf (m : Memory) : Prop :=
  m.Pairwise (fun c d => c.1 < d.1) ∧ ∀ c ∈ m, c.1 < 65536 ∧ c.2 ≠ 0

/-- The byte at an address; 0x00 where nothing is listed (R701). -/
def Memory.read : Memory → Nat → Byte
  | [], _ => 0
  | (b, w) :: m, a => if a = b then w else Memory.read m a

/-- The memory with nothing listed at an address. -/
def Memory.erase : Memory → Nat → Memory
  | [], _ => []
  | (b, w) :: m, a => if a = b then Memory.erase m a else (b, w) :: Memory.erase m a

/-- The memory with a byte listed at an address, in its place in the order. -/
def Memory.insert : Memory → Nat → Byte → Memory
  | [], a, v => [(a, v)]
  | (b, w) :: m, a, v =>
    if a < b then (a, v) :: (b, w) :: m
    else if a = b then (a, v) :: m
    else (b, w) :: Memory.insert m a v

/-- The memory after one byte is stored: storing 0x00 removes the cell. -/
def Memory.write (m : Memory) (a : Nat) (v : Byte) : Memory :=
  if v = 0 then m.erase a else m.insert a v

/-- The memory that holds the bytes of a list from an address on, and 0x00 elsewhere. -/
def Memory.ofImage : Nat → List Byte → Memory
  | _, [] => []
  | a, v :: vs => if v = 0 then Memory.ofImage (a + 1) vs else (a, v) :: Memory.ofImage (a + 1) vs

end Sys2Proof.Machine
end

