-- ==== Sys2Proof/Machine/Ops.lean ====
section
/-! DEFINITION. The named operations of the CPU over registers and the bus: register writes, the address map and the I/O
registers (20_memory.md R105 to R124), fetching operand bytes, the direct page and the stack (R10, R11), branches (R13),
calls, BRK's entry and RETI's return (R409, R411), `Halt` (R655). -/

namespace Sys2Proof.Machine

open Sys2Proof

/-- What a meaning answers. -/
abbrev Answer := Host.Outcome State Fault Refusal

/-- A <- v. -/
def State.setA (s : State) (v : Byte) : State := { s with cpu := { s.cpu with a := v } }

/-- X <- v. -/
def State.setX (s : State) (v : Byte) : State := { s with cpu := { s.cpu with x := v } }

/-- Y <- v. -/
def State.setY (s : State) (v : Byte) : State := { s with cpu := { s.cpu with y := v } }

/-- SP <- v. -/
def State.setSp (s : State) (v : Byte) : State := { s with cpu := { s.cpu with sp := v } }

/-- PC <- a. -/
def State.setPc (s : State) (a : Word) : State := { s with cpu := { s.cpu with pc := a } }

/-- PSW <- v. -/
def State.setPsw (s : State) (v : Byte) : State := { s with cpu := { s.cpu with psw := v } }

/-- cpu_run <- r. -/
def State.setRun (s : State) (r : CpuRun) : State := { s with cpu := { s.cpu with run := r } }

/-- Reading the pair YA (R38). -/
def State.ya (s : State) : Word := wordOf s.cpu.y s.cpu.a

/-- Writing the pair YA: A gets the low byte, Y the high byte (R38). -/
def State.setYA (s : State) (w : Word) : State := (s.setA (loByte w)).setY (hiByte w)

/-- `Cycles(n)` (R14): recorded for the orchestrator. -/
def State.spend (s : State) (n : Nat) : State := { s with cycles := n }

/-- The flag's value in PSW. -/
def State.flag (s : State) (f : Flag) : Bool := getFlag s.cpu.psw f

/-- PSW.f <- x, the other flags unchanged (R7). -/
def State.putFlag (s : State) (f : Flag) (x : Bool) : State := s.setPsw (setFlag s.cpu.psw f x)

/-- `raise EmulationFault(r)` (R640): sets `fault`; the instruction goes on. A later cause replaces an earlier one (log
entry 16). -/
def State.raise (s : State) (r : EmuFault) : State := { s with fault := some r }

/-- `Halt(kind)` (R655): `cpu_run` and `fault` are set. -/
def State.halt (s : State) (run : CpuRun) (r : EmuFault) : State := (s.setRun run).raise r

/-- The I/O registers of page 0 (R110 to R121). -/
inductive IoReg
  | test
  | control
  | dspAddr
  | dspData
  | cpuio (k : Fin 4)
  | plain
  | tTarget (k : Fin 3)
  | tOut (k : Fin 3)
  deriving DecidableEq, Repr

/-- The registers at 0x00F0 to 0x00FF, in address order. -/
def ioRegs : List IoReg :=
  [.test, .control, .dspAddr, .dspData, .cpuio 0, .cpuio 1, .cpuio 2, .cpuio 3] ++
  [.plain, .plain, .tTarget 0, .tTarget 1, .tTarget 2, .tOut 0, .tOut 1, .tOut 2]

/-- The I/O register at an address, if it is one of 0x00F0 to 0x00FF (R105). Only the address counts (R109). -/
def ioReg (a : Word) : Option IoReg := ioRegs[(a - 0x00F0#16).toNat]?

/-- A DSP register's content (R53). -/
def Dsp.reg (d : Dsp) (r : BitVec 7) : Byte := d.regs[r.toNat]'r.isLt

/-- Storing a DSP register, with no side effect. -/
def Dsp.setReg (d : Dsp) (r : BitVec 7) (v : Byte) : Dsp := { d with regs := d.regs.set r.toNat v r.isLt }

/-- A CPU write of a DSP register (R72): KON is copied into the latch, any write to ENDX clears it. -/
def Dsp.cpuWrite (d : Dsp) (r : BitVec 7) (v : Byte) : Dsp :=
  if r = 0x4C#7 then { d.setReg r v with konLatch := v }
  else if r = 0x7C#7 then d.setReg r 0x00#8
  else d.setReg r v

/-- CPU reads of 0xFFC0 to 0xFFFF see the IPL ROM (R43, R106). -/
def State.romMapped (s : State) : Bool := s.io.control.getLsbD 7

/-- What a read of an I/O register returns (R110 to R121). -/
def State.ioRead (s : State) (a : Word) : IoReg → Byte
  | .test => 0x00
  | .control => 0x00
  | .dspAddr => s.io.dspAddr
  | .dspData => s.dsp.reg (s.io.dspAddr.setWidth 7)
  | .cpuio k => s.io.cpuioIn[k]
  | .plain => s.ram.read a.toNat
  | .tTarget _ => 0x00
  | .tOut k => (s.io.tOut[k]).setWidth 8

/-- The value `MemRead(a, 1)` returns (R105, R106). -/
def State.peek (s : State) (a : Word) : Byte :=
  match ioReg a with
  | some r => s.ioRead a r
  | none =>
    if 0xFFC0 ≤ a.toNat ∧ s.romMapped = true then Config.iplRom.getD (a.toNat - 0xFFC0) 0x00
    else s.ram.read a.toNat

/-- T_OUT[k] <- v. -/
def State.setTOut (s : State) (k : Fin 3) (v : BitVec 4) : State :=
  { s with io := { s.io with tOut := s.io.tOut.set k v } }

/-- T_DIV[k] <- v. -/
def State.setTDiv (s : State) (k : Fin 3) (v : Byte) : State :=
  { s with io := { s.io with tDiv := s.io.tDiv.set k v } }

/-- The side effect of `MemRead(a, 1)`: reading a timer counter clears it; no other read has one (R121). -/
def State.touch (s : State) (a : Word) : State :=
  match ioReg a with
  | some (.tOut k) => s.setTOut k 0
  | _ => s

/-- The effect of the CPUIO_IN clear bits of a CONTROL write (R111). -/
def clearPorts (v : Byte) (p : Vector Byte 4) : Vector Byte 4 :=
  let p := if v.getLsbD 4 then (p.set 0 0x00).set 1 0x00 else p
  if v.getLsbD 5 then (p.set 2 0x00).set 3 0x00 else p

/-- A write of CONTROL that takes timer k from stopped to running clears its divider and counter (R111, R664). -/
def State.startTimer (s : State) (v : Byte) (k : Fin 3) : State :=
  if v.getLsbD k && !s.io.control.getLsbD k then (s.setTDiv k 0x00).setTOut k 0 else s

/-- The CONTROL write (R111), in its order. -/
def State.writeControl (s : State) (v : Byte) : State :=
  let s := { s with io := { s.io with cpuioIn := clearPorts v s.io.cpuioIn } }
  let s := ((s.startTimer v 0).startTimer v 1).startTimer v 2
  { s with io := { s.io with control := v } }

/-- The effect of a write on an I/O register, after the byte went to RAM (R110 to R120). -/
def State.ioWrite (s : State) (v : Byte) : IoReg → State
  | .test =>
    if v = 0x0A#8 then { s with io := { s.io with test := 0x0A } } else s.raise .testWrite
  | .control => s.writeControl v
  | .dspAddr => { s with io := { s.io with dspAddr := v } }
  | .dspData =>
    if s.io.dspAddr.toNat < 0x80 then { s with dsp := s.dsp.cpuWrite (s.io.dspAddr.setWidth 7) v } else s
  | .cpuio k => { s with io := { s.io with cpuioOut := s.io.cpuioOut.set k v } }
  | .plain => s
  | .tTarget k => { s with io := { s.io with tTarget := s.io.tTarget.set k v } }
  | .tOut _ => s

/-- ram[a] <- v. -/
def State.setRam (s : State) (a : Word) (v : Byte) : State := { s with ram := s.ram.write a.toNat v }

/-- `MemWrite(a, 1, v)` (R105, R107, R108): the byte always goes to RAM, then an I/O register acts on it. -/
def State.memWrite (s : State) (a : Word) (v : Byte) : State :=
  match ioReg a with
  | some r => (s.setRam a v).ioWrite v r
  | none => s.setRam a v

/-- `DummyRead(a)` (R124): under STORE_DUMMY_READ a read with its value discarded. Only a timer counter can tell the
difference, so the parameter is looked at only there (log entry 6). -/
def State.dummyRead (s : State) (a : Word) : State :=
  match ioReg a with
  | some (.tOut k) => if Config.storeDummyRead then s.setTOut k 0 else s
  | _ => s

/-- The state's part of `Fetch8()` for an operand byte (R9): the bus read's side effect, then PC advances. The byte's
value comes decoded (log entry 4). -/
def State.passOperand (s : State) : State := (s.touch s.cpu.pc).setPc (s.cpu.pc + 1)

/-- The value of an operand byte fetched after the instruction has written memory: the byte as decoded, unless the write
changed what the fetch reads (R129, R402; log entry 4). -/
def State.lateOperand (s before : State) (v : Byte) : Byte :=
  if s.peek s.cpu.pc = before.peek s.cpu.pc then v else s.peek s.cpu.pc

/-- `DP(o)` (R10). -/
def State.dpAddr (s : State) (o : Byte) : Word := wordOf (if s.flag .p then 0x01 else 0x00) o

/-- The value of `ReadDPWord(o)` (R10): low byte first, the high byte from the next offset of the same page. -/
def State.dpWord (s : State) (o : Byte) : Word :=
  wordOf ((s.touch (s.dpAddr o)).peek (s.dpAddr (o + 1))) (s.peek (s.dpAddr o))

/-- The side effects of `ReadDPWord(o)`. -/
def State.touchDpWord (s : State) (o : Byte) : State := (s.touch (s.dpAddr o)).touch (s.dpAddr (o + 1))

/-- The value of `ReadWord(a)` (R10): low byte first. -/
def State.word (s : State) (a : Word) : Word := wordOf ((s.touch a).peek (a + 1)) (s.peek a)

/-- The side effects of `ReadWord(a)`. -/
def State.touchWord (s : State) (a : Word) : State := (s.touch a).touch (a + 1)

/-- The stack address (R11): page 1 whatever PSW.P holds. -/
def stackAddr (sp : Byte) : Word := wordOf 0x01 sp

/-- `Push8(v)` (R11). -/
def State.push8 (s : State) (v : Byte) : State := (s.memWrite (stackAddr s.cpu.sp) v).setSp (s.cpu.sp - 1)

/-- `Push16(v)` (R11): high byte first. -/
def State.push16 (s : State) (v : Word) : State := (s.push8 (hiByte v)).push8 (loByte v)

/-- The value of `Pop8()` (R11). -/
def State.top8 (s : State) : Byte := s.peek (stackAddr (s.cpu.sp + 1))

/-- The state after `Pop8()`: SP advanced. The stack page holds no register with a read side effect. -/
def State.drop8 (s : State) : State := (s.touch (stackAddr (s.cpu.sp + 1))).setSp (s.cpu.sp + 1)

/-- The value of `Pop16()` (R11): low byte first. -/
def State.top16 (s : State) : Word := wordOf s.drop8.top8 s.top8

/-- The state after `Pop16()`. -/
def State.drop16 (s : State) : State := s.drop8.drop8

/-- `Branch(rel)` (R13). -/
def State.branch (s : State) (rel : Byte) : State := s.setPc (s.cpu.pc + sext16 rel)

/-- A conditional branch at its end: taken it costs two cycles more (R14, R720). -/
def State.branchIf (s : State) (taken : Bool) (rel : Byte) (n : Nat) : State :=
  if taken then (s.branch rel).spend (n + 2) else s.spend n

/-- A call (R406 to R408): the address of the next instruction is pushed, PC gets the target. -/
def State.call (s : State) (target : Word) : State := (s.push16 s.cpu.pc).setPc target

/-- A call through a vector (R408): the target is the word at the vector, read after the push. -/
def State.callVector (s : State) (vector : Word) : State :=
  let s := s.push16 s.cpu.pc
  (s.touchWord vector).setPc (s.word vector)

/-- The address of TCALL n's vector (R408); BRK uses n = 0 (R409). -/
def vectorAddr (n : Nat) : Word := 0xFFDE#16 - BitVec.ofNat 16 (2 * n)

/-- Taking BRK (R409, R653): PC and PSW are pushed, B set, I cleared, PC loaded from the vector at 0xFFDE. -/
def State.takeBreak (s : State) : State :=
  let s := s.push16 s.cpu.pc
  let s := s.push8 s.cpu.psw
  let s := (s.putFlag .b true).putFlag .i false
  (s.touchWord (vectorAddr 0)).setPc (s.word (vectorAddr 0))

/-- Returning with RETI (R411, R653): PSW is popped, then PC. -/
def State.returnFromBreak (s : State) : State :=
  let s := s.drop8.setPsw s.top8
  s.drop16.setPc s.top16

end Sys2Proof.Machine
end

