-- ==== Sys2Proof/Machine/Dsp.lean ====
section
/-! DEFINITION. The S-DSP's registers by name (10_state.md R54 to R71), its arithmetic (R5), the rate events (R520, R521),
the noise generator (R542) and the start of a tick (R501). -/

namespace Sys2Proof.Machine

open Sys2Proof

/-- A register byte as a signed number: `sext_8` (R5). -/
def sext8 (v : Byte) : Int := v.toInt

/-- `sext_4(n)` for n in 0..15 (R5). -/
def sext4 (n : Nat) : Int := if n < 8 then (n : Int) else (n : Int) - 16

/-- `clamp16(v)` (R5). -/
def clamp16 (v : Int) : Int := max (-32768) (min 32767 v)

/-- `wrap16(v)` (R5), as a sample. -/
def wrap16 (v : Int) : Sample := BitVec.ofInt 16 v

/-- `v & ~1` on a signed number (R6). -/
def clearBit0 (v : Int) : Int := v - v % 2

/-- The index of register n of voice v (R53). -/
def voiceReg (v : Fin 8) (n : Nat) : BitVec 7 := BitVec.ofNat 7 (16 * v + n)

/-- VOLL(v) (R54). -/
def Dsp.volL (d : Dsp) (v : Fin 8) : Byte := d.reg (voiceReg v 0)

/-- VOLR(v) (R54). -/
def Dsp.volR (d : Dsp) (v : Fin 8) : Byte := d.reg (voiceReg v 1)

/-- The 14-bit pitch of voice v (R55). -/
def Dsp.pitch (d : Dsp) (v : Fin 8) : Nat := (wordOf (d.reg (voiceReg v 3)) (d.reg (voiceReg v 2))).toNat % 0x4000

/-- SRCN(v) (R56). -/
def Dsp.srcn (d : Dsp) (v : Fin 8) : Byte := d.reg (voiceReg v 4)

/-- ADSR1(v) (R57). -/
def Dsp.adsr1 (d : Dsp) (v : Fin 8) : Byte := d.reg (voiceReg v 5)

/-- ADSR2(v) (R58). -/
def Dsp.adsr2 (d : Dsp) (v : Fin 8) : Byte := d.reg (voiceReg v 6)

/-- GAIN(v) (R59). -/
def Dsp.gain (d : Dsp) (v : Fin 8) : Byte := d.reg (voiceReg v 7)

/-- MVOLL (R62). -/
def Dsp.mvolL (d : Dsp) : Byte := d.reg 0x0C

/-- MVOLR (R62). -/
def Dsp.mvolR (d : Dsp) : Byte := d.reg 0x1C

/-- EVOLL (R62). -/
def Dsp.evolL (d : Dsp) : Byte := d.reg 0x2C

/-- EVOLR (R62). -/
def Dsp.evolR (d : Dsp) : Byte := d.reg 0x3C

/-- KOFF (R64). -/
def Dsp.koff (d : Dsp) : Byte := d.reg 0x5C

/-- FLG (R65). -/
def Dsp.flg (d : Dsp) : Byte := d.reg 0x6C

/-- ENDX (R66). -/
def Dsp.endx (d : Dsp) : Byte := d.reg 0x7C

/-- EFB (R67). -/
def Dsp.efb (d : Dsp) : Byte := d.reg 0x0D

/-- PMON (R68). -/
def Dsp.pmon (d : Dsp) : Byte := d.reg 0x2D

/-- NON (R68). -/
def Dsp.non (d : Dsp) : Byte := d.reg 0x3D

/-- EON (R68). -/
def Dsp.eon (d : Dsp) : Byte := d.reg 0x4D

/-- DIR (R69). -/
def Dsp.dir (d : Dsp) : Byte := d.reg 0x5D

/-- ESA (R69). -/
def Dsp.esa (d : Dsp) : Byte := d.reg 0x6D

/-- EDL (R70). -/
def Dsp.edl (d : Dsp) : Byte := d.reg 0x7D

/-- FIR(i) (R71). -/
def Dsp.fir (d : Dsp) (i : Fin 8) : Byte := d.reg (voiceReg i 15)

/-- Voice v's internal state (R73). -/
def Dsp.voice (d : Dsp) (v : Fin 8) : Voice := d.voices[v]

/-- Storing voice v's internal state. -/
def Dsp.setVoice (d : Dsp) (v : Fin 8) (x : Voice) : Dsp := { d with voices := d.voices.set v x }

/-- RATE_PERIOD and RATE_OFFSET for the rates 0 to 31 (R521); rate 0 has none. -/
def rateTable : List (Nat × Nat) :=
  [(0, 0), (2048, 0), (1536, 1040), (1280, 536), (1024, 0), (768, 1040), (640, 536), (512, 0)] ++
  [(384, 1040), (320, 536), (256, 0), (192, 1040), (160, 536), (128, 0), (96, 1040), (80, 536)] ++
  [(64, 0), (48, 1040), (40, 536), (32, 0), (24, 1040), (20, 536), (16, 0), (12, 1040)] ++
  [(10, 536), (8, 0), (6, 1040), (5, 536), (4, 0), (3, 1040), (2, 0), (1, 0)]

/-- `RateEvent(r)` (R521): rate 0 never fires. -/
def rateEvent (counter r : Nat) : Bool :=
  if r = 0 then false
  else decide ((counter + (rateTable.getD r (0, 0)).2) % (rateTable.getD r (0, 0)).1 = 0)

/-- The next value of the rate counter (R520). -/
def nextRate (counter : Nat) : Nat := if counter = 0 then 30719 else counter - 1

/-- `NoiseStep()` (R542): shift right, the new bit 14 is old bit 0 XOR old bit 1. -/
def noiseStep (n : BitVec 15) : BitVec 15 := (((n <<< 13) ^^^ (n <<< 14)) &&& 0x4000#15) ||| (n >>> 1)

/-- The polling of KON and KOFF at the start of every second tick (R501, R510, R511). -/
def Dsp.pollLatches (d : Dsp) : Dsp :=
  { d with konLatch := d.konLatch &&& ~~~d.konNow, konNow := d.konLatch &&& ~~~d.konNow, koffNow := d.koff }

/-- `TickGlobals()` (R501). After it `everyOther` is the tick's `poll`. -/
def Dsp.tickGlobals (d : Dsp) : Dsp :=
  let d := { d with everyOther := !d.everyOther }
  let d := if d.everyOther then d.pollLatches else d
  let d := { d with rateCounter := nextRate d.rateCounter }
  if rateEvent d.rateCounter (d.flg.toNat % 32) then { d with noise := noiseStep d.noise } else d

/-- A directory entry's address (R503). -/
def Dsp.directoryEntry (d : Dsp) (v : Fin 8) : Word := wordOf d.dir 0x00 + BitVec.ofNat 16 (4 * (d.srcn v).toNat)

/-- Two bytes of RAM as a little-endian word, each address modulo 65536 (R101, R104, R125). -/
def ramWord (ram : Memory) (a : Word) : Word := wordOf (ram.read (a + 1).toNat) (ram.read a.toNat)

end Sys2Proof.Machine
end

