-- ==== Sys2Proof/Machine/DspVoice.lean ====
section
/-! DEFINITION. One voice's work in one tick (47_dsp_voice.md R502 to R545) and its share of the mix (R561). -/

namespace Sys2Proof.Machine

open Sys2Proof

/-- The temporaries of one tick (R500): the accumulators and the previous voice's output. -/
structure Mix where
  mainL : Int
  mainR : Int
  echoL : Int
  echoR : Int
  prevOut : Sample
  deriving DecidableEq, Repr

/-- The temporaries at the start of a tick (R500). -/
def Mix.zero : Mix where
  mainL := 0
  mainR := 0
  echoL := 0
  echoR := 0
  prevOut := 0

/-- The pitch of the tick, with modulation by the previous voice (R502, R537). -/
def Dsp.stepPitch (d : Dsp) (v : Fin 8) (prev : Sample) : Nat :=
  if v.val > 0 && d.pmon.getLsbD v then
    ((d.pitch v : Int) + (((prev.toInt >>> 5) * (d.pitch v : Int)) >>> 10)).toNat
  else d.pitch v

/-- `KeyOnSequence(v)` (R512) on the voice; `start` is the directory's start address. -/
def Voice.keyOnSequence (x : Voice) (start : Word) : Voice :=
  let x := { x with konDelay := x.konDelay - 1 }
  let x := if x.konDelay = 4 then { x with brrAddr := start, brrOffset := 1, bufPos := 0 } else x
  { x with level := 0, interpPos := if x.konDelay % 4 = 0 then 0 else 0x4000 }

/-- A sample of the ring (R509). -/
def Voice.ring (x : Voice) (i : Nat) : Sample := x.buf[i % 12]'(Nat.mod_lt _ (by decide))

/-- Storing a sample of the ring. -/
def Voice.setRing (x : Voice) (i : Nat) (v : Sample) : Voice :=
  { x with buf := x.buf.set (i % 12) v (Nat.mod_lt _ (by decide)) }

/-- The interpolated sample (R509, R540). -/
def Voice.interpolated (x : Voice) : Sample :=
  let k := x.bufPos + x.interpPos / 4096
  Config.interp (x.ring k) (x.ring (k + 1)) (x.ring (k + 2)) (x.ring (k + 3)) (BitVec.ofNat 8 (x.interpPos / 16))

/-- `VoiceSample(v)` (R540, R541). -/
def Dsp.voiceSample (d : Dsp) (v : Fin 8) : Sample :=
  if d.non.getLsbD v then wrap16 (2 * (d.noise.toNat : Int)) else (d.voice v).interpolated

/-- Envelope application (R543): a level of 0 gives 0 for any sample. -/
def voiceOut (s : Sample) (level : Nat) : Sample :=
  if level = 0 then 0 else wrap16 (clearBit0 ((s.toInt * (level : Int)) >>> 11))

/-- `MixVoice(v)` (R561, R562). -/
def Dsp.mixVoice (d : Dsp) (mute : Byte) (v : Fin 8) (m : Mix) : Mix :=
  let out := (d.voice v).out.toInt
  let l := if mute.getLsbD v then 0 else out * sext8 (d.volL v)
  let r := if mute.getLsbD v then 0 else out * sext8 (d.volR v)
  { mainL := m.mainL + l
    mainR := m.mainR + r
    echoL := if d.eon.getLsbD v then m.echoL + l else m.echoL
    echoR := if d.eon.getLsbD v then m.echoR + r else m.echoR
    prevOut := m.prevOut }

/-- A voice silenced: Off with level 0 (R513, R508). -/
def Voice.silence (x : Voice) : Voice := { x with mode := .off, level := 0 }

/-- FLG bit 7 (R513). -/
def Dsp.softResetVoice (d : Dsp) (v : Fin 8) : Dsp :=
  if d.flg.getLsbD 7 then d.setVoice v (d.voice v).silence else d

/-- A polled key-off (R511). -/
def Voice.keyOff (x : Voice) : Voice := if x.mode = .off then x else { x with mode := .release }

/-- A polled key-on (R510). -/
def Voice.keyOn (x : Voice) : Voice := { x with konDelay := 5, mode := .attack }

/-- The polled key-off, then the polled key-on, of voice v (R502, R510, R511). -/
def Dsp.pollVoice (d : Dsp) (v : Fin 8) : Dsp :=
  if d.everyOther then
    let d := if d.koffNow.getLsbD v then d.setVoice v (d.voice v).keyOff else d
    if d.konNow.getLsbD v then (d.setVoice v (d.voice v).keyOn).setReg 0x7C (withBit d.endx v false) else d
  else d

/-- `ExpDec(L)` (R523). -/
def expDec (level : Nat) : Int := (level : Int) - ((((level : Int) - 1) >>> 8) + 1)

/-- The clamp of every envelope rule (R527). -/
def clampLevel (n : Int) : Nat := (max 0 (min 0x7FF n)).toNat

/-- Attack (R524). -/
def Voice.attackStep (x : Voice) (counter : Nat) (adsr1 : Byte) : Voice :=
  let rate := 2 * (adsr1.toNat % 16) + 1
  if rateEvent counter rate then
    let level := clampLevel ((x.level : Int) + (if rate = 31 then 1024 else 32))
    { x with level := level, mode := if level ≥ 0x7E0 then .decay else .attack }
  else x

/-- Decay (R525). -/
def Voice.decayStep (x : Voice) (counter : Nat) (adsr1 adsr2 : Byte) : Voice :=
  let rate := 2 * (adsr1.toNat / 16 % 8) + 16
  if rateEvent counter rate then
    let level := clampLevel (expDec x.level)
    { x with level := level, mode := if level / 256 = adsr2.toNat / 32 then .sustain else .decay }
  else x

/-- Sustain (R526). -/
def Voice.sustainStep (x : Voice) (counter : Nat) (adsr2 : Byte) : Voice :=
  if rateEvent counter (adsr2.toNat % 32) then { x with level := clampLevel (expDec x.level) } else x

/-- The new level of a GAIN rate event (R528), before the clamp: by the mode field of GAIN. -/
def gainLevel (level : Nat) (g : Nat) : Int :=
  if g / 32 % 4 = 0 then (level : Int) - 32
  else if g / 32 % 4 = 1 then expDec level
  else if g / 32 % 4 = 2 then (level : Int) + 32
  else (level : Int) + (if level < 0x600 then 32 else 8)

/-- `GainStep(v)` (R528). -/
def Voice.gainStep (x : Voice) (counter : Nat) (gain : Byte) : Voice :=
  if gain.getLsbD 7 then
    if rateEvent counter (gain.toNat % 32) then { x with level := clampLevel (gainLevel x.level gain.toNat) } else x
  else { x with level := 16 * (gain.toNat % 128) }

/-- `ReleaseStep(v)` (R529). -/
def Voice.releaseStep (x : Voice) : Voice :=
  let level := clampLevel (expDec x.level)
  if level = 0 then { x with level := 0, mode := .off } else { x with level := level }

/-- `EnvStep(v)` (R522, R523, R530). -/
def Voice.envStep (x : Voice) (counter : Nat) (adsr1 adsr2 gain : Byte) : Voice :=
  if x.konDelay = 0 then
    match x.mode with
    | .off => x
    | .release => x.releaseStep
    | .attack => if adsr1.getLsbD 7 then x.attackStep counter adsr1 else x.gainStep counter gain
    | .decay => if adsr1.getLsbD 7 then x.decayStep counter adsr1 adsr2 else x.gainStep counter gain
    | .sustain => if adsr1.getLsbD 7 then x.sustainStep counter adsr2 else x.gainStep counter gain
  else x

/-- The scaled nibble (R506): shifts 13 to 15 give -4096 or 0. -/
def brrScale (shift : Nat) (n : Int) : Int :=
  if shift ≤ 12 then n * 2 ^ shift else if n < 0 then -4096 else 0

/-- The half-scale sum of filters 1 to 3 (R507), term by term. -/
def brrHalf (filter : Nat) (full p1 p2 : Int) : Int :=
  let h := full >>> 1
  let q2 := p2 >>> 1
  if filter = 1 then h + (p1 >>> 1) + ((-p1) >>> 5)
  else if filter = 2 then h + p1 - q2 + (q2 >>> 4) + ((p1 * -3) >>> 6)
  else h + p1 - q2 + ((p1 * -13) >>> 7) + ((q2 * 3) >>> 4)

/-- `BrrFilter(filter, full, p1, p2)` (R507): filter 0 is exact. -/
def brrFilter (filter : Nat) (full p1 p2 : Int) : Sample :=
  if filter = 0 then wrap16 full else wrap16 (clamp16 (brrHalf filter full p1 p2) * 2)

/-- One sample of a group decoded into the ring (R506). -/
def Voice.decodeSample (header : Byte) (x : Voice) (j nibble : Nat) : Voice :=
  let full := brrScale (header.toNat / 16) (sext4 nibble)
  let p1 := (x.ring (x.bufPos + j + 11)).toInt
  let p2 := (x.ring (x.bufPos + j + 10)).toInt
  x.setRing (x.bufPos + j) (brrFilter (header.toNat / 4 % 4) full p1 p2)

/-- `BrrDecodeGroup(v)` (R505, R506): four samples from two data bytes, the high nibble of a byte first (R504). -/
def Voice.decodeGroup (x : Voice) (ram : Memory) : Voice :=
  let header := ram.read x.brrAddr.toNat
  let b0 := ram.read (x.brrAddr + BitVec.ofNat 16 x.brrOffset).toNat
  let b1 := ram.read (x.brrAddr + BitVec.ofNat 16 (x.brrOffset + 1)).toNat
  let x := x.decodeSample header 0 (b0.toNat / 16)
  let x := x.decodeSample header 1 (b0.toNat % 16)
  let x := x.decodeSample header 2 (b1.toNat / 16)
  let x := x.decodeSample header 3 (b1.toNat % 16)
  { x with bufPos := (x.bufPos + 4) % 12 }

/-- The voice at the end of a block with the end flag (R508): the loop address, and silence without the loop flag. -/
def Voice.endBlock (x : Voice) (header : Byte) (loop : Word) : Voice :=
  let x := { x with brrOffset := 1, brrAddr := loop }
  if x.konDelay = 0 && !header.getLsbD 1 then x.silence else x

/-- `AdvanceBlock(v, header)` (R508). -/
def Dsp.advanceBlock (d : Dsp) (ram : Memory) (v : Fin 8) (header : Byte) : Dsp :=
  let x := d.voice v
  if x.brrOffset + 2 = 9 then
    if header.getLsbD 0 then
      let d' := d.setVoice v (x.endBlock header (ramWord ram (d.directoryEntry v + 2)))
      if x.konDelay = 0 then d'.setReg 0x7C (withBit d.endx v true) else d'
    else d.setVoice v { x with brrOffset := 1, brrAddr := x.brrAddr + 9 }
  else d.setVoice v { x with brrOffset := x.brrOffset + 2 }

/-- `PitchAndDecode(v, P)` (R536). -/
def Dsp.pitchAndDecode (d : Dsp) (ram : Memory) (v : Fin 8) (p : Nat) : Dsp :=
  let x := d.voice v
  let d := d.setVoice v { x with interpPos := min 0x7FFF (x.interpPos % 0x4000 + p) }
  if 0x4000 ≤ x.interpPos then
    (d.setVoice v ((d.voice v).decodeGroup ram)).advanceBlock ram v (ram.read x.brrAddr.toNat)
  else d

/-- The key-on sequence of voice v while it runs (R502, R512). -/
def Dsp.keyOnVoice (d : Dsp) (ram : Memory) (v : Fin 8) : Dsp :=
  if (d.voice v).konDelay = 0 then d
  else d.setVoice v ((d.voice v).keyOnSequence (ramWord ram (d.directoryEntry v)))

/-- The voice's output sample of the tick stored, with ENVX and OUTX (R502, R543, R545). -/
def Dsp.emitVoice (d : Dsp) (v : Fin 8) : Dsp :=
  let x := d.voice v
  let d := d.setReg (voiceReg v 8) (BitVec.ofNat 8 (x.level / 16))
  let out := voiceOut (d.voiceSample v) x.level
  (d.setVoice v { x with out := out }).setReg (voiceReg v 9) (hiByte out)

/-- The envelope step of voice v (R502, R523). -/
def Dsp.envVoice (d : Dsp) (v : Fin 8) : Dsp :=
  d.setVoice v ((d.voice v).envStep d.rateCounter (d.adsr1 v) (d.adsr2 v) (d.gain v))

/-- `VoiceTick(v)` (R502), on the DSP and the tick's temporaries. -/
def voiceTick (ram : Memory) (mute : Byte) (t : Dsp × Mix) (v : Fin 8) : Dsp × Mix :=
  let d := t.1
  let p := if (d.voice v).konDelay = 0 then d.stepPitch v t.2.prevOut else 0
  let d := (d.keyOnVoice ram v).emitVoice v
  let m := { d.mixVoice mute v t.2 with prevOut := (d.voice v).out }
  let d := ((d.softResetVoice v).pollVoice v).envVoice v
  (d.pitchAndDecode ram v p, m)

end Sys2Proof.Machine
end

