-- ==== Sys2Proof/Machine/DspEcho.lean ====
section
/-! DEFINITION. The second half of a tick: the echo buffer, the FIR filter and the output frame (48_dsp_echo_mix.md R560 to
R575), and the whole tick (R500). -/

namespace Sys2Proof.Machine

open Sys2Proof

/-- The RAM address of the current echo frame (R564). -/
def Dsp.echoAddr (d : Dsp) : Word := wordOf d.esa 0x00 + BitVec.ofNat 16 d.echoOffset

/-- The echo length latched when the position is 0, then the position advanced (R565). -/
def Dsp.advanceEcho (d : Dsp) : Dsp :=
  let length := if d.echoOffset = 0 then d.edl.toNat % 16 * 2048 else d.echoLength
  { d with echoLength := length, echoOffset := if d.echoOffset + 4 ≥ length then 0 else d.echoOffset + 4 }

/-- The frame read from the echo buffer (R566). -/
def readFrame (ram : Memory) (a : Word) : Frame := ⟨ramWord ram a, ramWord ram (a + 2)⟩

/-- The echo frame written to RAM: left low, left high, right low, right high (R566, R571). -/
def writeFrame (ram : Memory) (a : Word) (f : Frame) : Memory :=
  let ram := ram.write a.toNat (loByte f.l)
  let ram := ram.write (a + 1).toNat (hiByte f.l)
  let ram := ram.write (a + 2).toNat (loByte f.r)
  ram.write (a + 3).toNat (hiByte f.r)

/-- The history shifted, the newest frame last (R567). -/
def pushHistory (h : Vector Frame 8) (f : Frame) : Vector Frame 8 :=
  #v[h[1], h[2], h[3], h[4], h[5], h[6], h[7], f]

/-- The FIR sum of one channel, exact (R568). -/
def Dsp.firSum (d : Dsp) (channel : Frame → Sample) : Int :=
  let term (i : Fin 8) : Int := (channel d.firHist[i]).toInt * sext8 (d.fir i)
  term 0 + term 1 + term 2 + term 3 + term 4 + term 5 + term 6 + term 7

/-- The value written back to the echo buffer (R570). -/
def echoValue (acc fir : Int) (efb : Byte) : Sample := wrap16 (clamp16 ((acc >>> 7) + ((fir * sext8 efb) >>> 14)))

/-- One channel of the output frame (R573). -/
def outputValue (main fir : Int) (mvol evol : Byte) : Sample :=
  wrap16 (clamp16 ((main * sext8 mvol + fir * sext8 evol) >>> 14))

/-- The echo frame to write (R570). -/
def Dsp.echoFrame (d : Dsp) (m : Mix) : Frame :=
  ⟨echoValue m.echoL (d.firSum Frame.l) d.efb, echoValue m.echoR (d.firSum Frame.r) d.efb⟩

/-- The output frame (R573), silent under FLG bit 6 (R574). -/
def Dsp.outputFrame (d : Dsp) (m : Mix) : Frame :=
  if d.flg.getLsbD 6 then ⟨0, 0⟩
  else ⟨outputValue m.mainL (d.firSum Frame.l) d.mvolL d.evolL, outputValue m.mainR (d.firSum Frame.r) d.mvolR d.evolR⟩

/-- The DSP's part of `EchoAndOutput()` before the write (R560): position, read, history. -/
def Dsp.readEcho (d : Dsp) (ram : Memory) : Dsp :=
  { d.advanceEcho with firHist := pushHistory d.firHist (readFrame ram d.echoAddr) }

/-- The eight voices in increasing order (R500). -/
def runVoices (ram : Memory) (mute : Byte) (d : Dsp) : Dsp × Mix :=
  [0, 1, 2, 3, 4, 5, 6, 7].foldl (voiceTick ram mute) (d, Mix.zero)

/-- `EchoAndOutput()` (R560) on the DSP after its voices: RAM, DSP and the frame emitted. -/
def echoAndOutput (ram : Memory) (d : Dsp) (m : Mix) : Memory × Dsp × Frame :=
  let d' := d.readEcho ram
  let ram' := if d'.flg.getLsbD 5 then ram else writeFrame ram d.echoAddr (d'.echoFrame m)
  (ram', d', d'.outputFrame m)

/-- `DspTick()` (R500): the frame emitted stands in `frame` (R610; log entry 1). -/
def State.dspTick (s : State) : State :=
  let t := runVoices s.ram s.muteMask s.dsp.tickGlobals
  let r := echoAndOutput s.ram t.1 t.2
  { s with ram := r.1, dsp := r.2.1, frame := some r.2.2 }

end Sys2Proof.Machine
end

