-- ==== Sys2Proof/Machine/Clock.lean ====
section
/-! DEFINITION. The clock: the timers (60_exceptions.md R660 to R664) and the interleaving of timers and DSP over the cycles
of an instruction (49_orchestrator_host.md R601). -/

namespace Sys2Proof.Machine

open Sys2Proof

/-- `TimerStage2(k)` (R662, R663). -/
def State.timerStage2 (s : State) (k : Fin 3) : State :=
  if s.io.control.getLsbD k then
    if s.io.tDiv[k] + 1 = s.io.tTarget[k] then (s.setTDiv k 0).setTOut k (s.io.tOut[k] + 1)
    else s.setTDiv k (s.io.tDiv[k] + 1)
  else s

/-- `TimerCycle()` (R661): timers 0 and 1 every 128 cycles, timer 2 every 16. -/
def State.timerCycle (s : State) : State :=
  let s := if s.clk % 128 = 0 then (s.timerStage2 0).timerStage2 1 else s
  if s.clk % 16 = 0 then s.timerStage2 2 else s

/-- One cycle of the clock (R601): the count, the timers, then the DSP tick on a multiple of 32. -/
def State.clockCycle (s : State) : State :=
  let s := { s with clk := s.clk + 1 }.timerCycle
  if s.clk % 32 = 0 then s.dspTick else s

/-- The clock effects of n cycles (R601). -/
def State.runClock : Nat → State → State
  | 0, s => s
  | n + 1, s => State.runClock n s.clockCycle

end Sys2Proof.Machine
end

