-- ==== Sys2Proof/Machine/Operands.lean ====
section
/-! DEFINITION. The operand forms (R166, R10, R104) and the shapes of instructions over them: each shape does its rule's
fetches, reads and writes in the order of the rule's pseudocode (R123) and ends with `Cycles(n)`. -/

namespace Sys2Proof.Machine

open Sys2Proof

/-- The forms of a memory operand. -/
inductive Mode
  /-- `(X)`. -/
  | ix
  /-- `(Y)`. -/
  | iy
  /-- `d`. -/
  | dp (d : Byte)
  /-- `d+X`. -/
  | dpX (d : Byte)
  /-- `d+Y`. -/
  | dpY (d : Byte)
  /-- `!a`. -/
  | abs (a : Word)
  /-- `!a+X`. -/
  | absX (a : Word)
  /-- `!a+Y`. -/
  | absY (a : Word)
  /-- `[d+X]`. -/
  | indX (d : Byte)
  /-- `[d]+Y`. -/
  | indY (d : Byte)
  deriving DecidableEq, Repr

/-- The state after the form's operand bytes were fetched (R151 to R154). -/
def Mode.passed (m : Mode) (s : State) : State :=
  match m with
  | .ix => s
  | .iy => s
  | .dp _ => s.passOperand
  | .dpX _ => s.passOperand
  | .dpY _ => s.passOperand
  | .abs _ => s.passOperand.passOperand
  | .absX _ => s.passOperand.passOperand
  | .absY _ => s.passOperand.passOperand
  | .indX _ => s.passOperand
  | .indY _ => s.passOperand

/-- The effective address, in the state after the operand bytes were fetched (R10, R104). -/
def Mode.ea (m : Mode) (s : State) : Word :=
  match m with
  | .ix => s.dpAddr s.cpu.x
  | .iy => s.dpAddr s.cpu.y
  | .dp d => s.dpAddr d
  | .dpX d => s.dpAddr (d + s.cpu.x)
  | .dpY d => s.dpAddr (d + s.cpu.y)
  | .abs a => a
  | .absX a => a + zext16 s.cpu.x
  | .absY a => a + zext16 s.cpu.y
  | .indX d => s.dpWord (d + s.cpu.x)
  | .indY d => s.dpWord d + zext16 s.cpu.y

/-- The side effects of reading the pointer of an indirect form. -/
def Mode.pointed (m : Mode) (s : State) : State :=
  match m with
  | .ix => s
  | .iy => s
  | .dp _ => s
  | .dpX _ => s
  | .dpY _ => s
  | .abs _ => s
  | .absX _ => s
  | .absY _ => s
  | .indX d => s.touchDpWord (d + s.cpu.x)
  | .indY d => s.touchDpWord d

/-- The operand's address, from the state at the instruction's start. -/
def Mode.addr (m : Mode) (s : State) : Word := m.ea (m.passed s)

/-- The state when the operand's address is known. -/
def Mode.located (m : Mode) (s : State) : State := m.pointed (m.passed s)

/-- The operand's value as `MemRead` returns it. -/
def Mode.value (m : Mode) (s : State) : Byte := (m.located s).peek (m.addr s)

/-- The state after the operand was read. -/
def Mode.readState (m : Mode) (s : State) : State := (m.located s).touch (m.addr s)

/-- A two-operand operation: PSW, first operand, second operand to result and PSW. -/
abbrev AluOp := Byte → Byte → Byte → Byte × Byte

/-- A compare: PSW, first operand, second operand to PSW. -/
abbrev CmpOp := Byte → Byte → Byte → Byte

/-- A one-operand operation: PSW and operand to result and PSW. -/
abbrev UnOp := Byte → Byte → Byte × Byte

/-- SetNZ8 on PSW. -/
def State.putNZ8 (s : State) (v : Byte) : State := s.setPsw (setNZ8 s.cpu.psw v)

/-- SetNZ16 on PSW. -/
def State.putNZ16 (s : State) (v : Word) : State := s.setPsw (setNZ16 s.cpu.psw v)

/-- `MOV A,operand`. -/
def loadA (m : Mode) (n : Nat) (s : State) : Answer :=
  .next ((((m.readState s).setA (m.value s)).putNZ8 (m.value s)).spend n)

/-- `MOV X,operand`. -/
def loadX (m : Mode) (n : Nat) (s : State) : Answer :=
  .next ((((m.readState s).setX (m.value s)).putNZ8 (m.value s)).spend n)

/-- `MOV Y,operand`. -/
def loadY (m : Mode) (n : Nat) (s : State) : Answer :=
  .next ((((m.readState s).setY (m.value s)).putNZ8 (m.value s)).spend n)

/-- A MOV to memory: the dummy read of the destination (R124), then the write. -/
def store (m : Mode) (v : State → Byte) (n : Nat) (s : State) : Answer :=
  .next ((((m.located s).dummyRead (m.addr s)).memWrite (m.addr s) (v s)).spend n)

/-- An operation on A and an immediate byte, result to A. -/
def aluAImm (op : AluOp) (i : Byte) (n : Nat) (s : State) : Answer :=
  let s := s.passOperand
  let r := op s.cpu.psw s.cpu.a i
  .next (((s.setA r.1).setPsw r.2).spend n)

/-- An operation on A and a memory byte, result to A. -/
def aluA (op : AluOp) (m : Mode) (n : Nat) (s : State) : Answer :=
  let v := m.value s
  let s := m.readState s
  let r := op s.cpu.psw s.cpu.a v
  .next (((s.setA r.1).setPsw r.2).spend n)

/-- An operation on the bytes at `(X)` and `(Y)`, result to `(X)`; `(Y)` is read first. -/
def aluIxIy (op : AluOp) (n : Nat) (s : State) : Answer :=
  let v := Mode.iy.value s
  let s := Mode.iy.readState s
  let t := Mode.ix.value s
  let s := Mode.ix.readState s
  let r := op s.cpu.psw t v
  .next (((s.memWrite (Mode.ix.addr s) r.1).setPsw r.2).spend n)

/-- An operation on two direct-page bytes, result to the destination; the source is read before the destination's offset
is fetched. -/
def aluDpDp (op : AluOp) (ds dd : Byte) (n : Nat) (s : State) : Answer :=
  let v := (Mode.dp ds).value s
  let s := (Mode.dp ds).readState s
  let t := (Mode.dp dd).value s
  let a := (Mode.dp dd).addr s
  let s := (Mode.dp dd).readState s
  let r := op s.cpu.psw t v
  .next (((s.memWrite a r.1).setPsw r.2).spend n)

/-- An operation on a direct-page byte and an immediate byte, result to memory. -/
def aluDpImm (op : AluOp) (i d : Byte) (n : Nat) (s : State) : Answer :=
  let s := s.passOperand
  let t := (Mode.dp d).value s
  let a := (Mode.dp d).addr s
  let s := (Mode.dp d).readState s
  let r := op s.cpu.psw t i
  .next (((s.memWrite a r.1).setPsw r.2).spend n)

/-- A compare of a register with an immediate byte. -/
def cmpRegImm (reg : Cpu → Byte) (i : Byte) (n : Nat) (s : State) : Answer :=
  let s := s.passOperand
  .next ((s.setPsw (cmp8 s.cpu.psw (reg s.cpu) i)).spend n)

/-- A compare of a register with a memory byte. -/
def cmpReg (reg : Cpu → Byte) (m : Mode) (n : Nat) (s : State) : Answer :=
  let v := m.value s
  let s := m.readState s
  .next ((s.setPsw (cmp8 s.cpu.psw (reg s.cpu) v)).spend n)

/-- A compare of the byte at `(X)` with the byte at `(Y)`; `(Y)` is read first. -/
def cmpIxIy (n : Nat) (s : State) : Answer :=
  let v := Mode.iy.value s
  let s := Mode.iy.readState s
  let t := Mode.ix.value s
  let s := Mode.ix.readState s
  .next ((s.setPsw (cmp8 s.cpu.psw t v)).spend n)

/-- A compare of two direct-page bytes. -/
def cmpDpDp (ds dd : Byte) (n : Nat) (s : State) : Answer :=
  let v := (Mode.dp ds).value s
  let s := (Mode.dp ds).readState s
  let t := (Mode.dp dd).value s
  let s := (Mode.dp dd).readState s
  .next ((s.setPsw (cmp8 s.cpu.psw t v)).spend n)

/-- A compare of a direct-page byte with an immediate byte. -/
def cmpDpImm (i d : Byte) (n : Nat) (s : State) : Answer :=
  let s := s.passOperand
  let t := (Mode.dp d).value s
  let s := (Mode.dp d).readState s
  .next ((s.setPsw (cmp8 s.cpu.psw t i)).spend n)

/-- A one-operand operation on A. -/
def unA (op : UnOp) (n : Nat) (s : State) : Answer :=
  let r := op s.cpu.psw s.cpu.a
  .next (((s.setA r.1).setPsw r.2).spend n)

/-- A one-operand operation on X. -/
def unX (op : UnOp) (n : Nat) (s : State) : Answer :=
  let r := op s.cpu.psw s.cpu.x
  .next (((s.setX r.1).setPsw r.2).spend n)

/-- A one-operand operation on Y. -/
def unY (op : UnOp) (n : Nat) (s : State) : Answer :=
  let r := op s.cpu.psw s.cpu.y
  .next (((s.setY r.1).setPsw r.2).spend n)

/-- A one-operand operation on a memory byte: a read, then a write of the same byte. -/
def unMem (op : UnOp) (m : Mode) (n : Nat) (s : State) : Answer :=
  let v := m.value s
  let a := m.addr s
  let s := m.readState s
  let r := op s.cpu.psw v
  .next (((s.memWrite a r.1).setPsw r.2).spend n)

/-- A memory byte rewritten with no flag written (SET1, CLR1, MOV1 m.b, NOT1). -/
def rewrite (f : Byte → Byte) (m : Mode) (n : Nat) (s : State) : Answer :=
  let v := m.value s
  let a := m.addr s
  .next (((m.readState s).memWrite a (f v)).spend n)

/-- C computed from C and a bit of a memory byte (OR1, AND1, EOR1, MOV1 C). -/
def carryBit (f : Bool → Bool → Bool) (m : Word) (b : Nat) (n : Nat) (s : State) : Answer :=
  let v := (Mode.abs m).value s
  let s := (Mode.abs m).readState s
  .next ((s.putFlag .c (f (s.flag .c) (v.getLsbD b))).spend n)

/-- A branch on a flag. -/
def branchFlag (f : Flag) (x : Bool) (rel : Byte) (s : State) : Answer :=
  let s := s.passOperand
  .next (s.branchIf (s.flag f == x) rel 2)

/-- A branch on a memory byte: the byte is read, then the displacement is fetched, then the test. -/
def branchByte (test : Cpu → Byte → Bool) (m : Mode) (rel : Byte) (n : Nat) (s : State) : Answer :=
  let v := m.value s
  let s := (m.readState s).passOperand
  .next (s.branchIf (test s.cpu v) rel n)

/-- A word operation on YA and a direct-page word. -/
def wordYA (op : Byte → Word → Word → Word × Byte) (d : Byte) (n : Nat) (s : State) : Answer :=
  let s := s.passOperand
  let w := s.dpWord d
  let s := s.touchDpWord d
  let r := op s.cpu.psw s.ya w
  .next (((s.setYA r.1).setPsw r.2).spend n)

/-- INCW and DECW: the low byte is written before the high byte is read (R358, R359). -/
def wordStep (low : Byte → Byte) (step : Word → Word) (d : Byte) (n : Nat) (s : State) : Answer :=
  let s := s.passOperand
  let lo := s.peek (s.dpAddr d)
  let s := (s.touch (s.dpAddr d)).memWrite (s.dpAddr d) (low lo)
  let hi := s.peek (s.dpAddr (d + 1))
  let s := s.touch (s.dpAddr (d + 1))
  let r := step (wordOf hi lo)
  .next (((s.memWrite (s.dpAddr (d + 1)) (hiByte r)).putNZ16 r).spend n)

/-- PUSH of a register. -/
def push (reg : Cpu → Byte) (s : State) : Answer := .next ((s.push8 (reg s.cpu)).spend 4)

end Sys2Proof.Machine
end

