-- ==== Sys2Proof/Machine/Arith.lean ====
section
/-! DEFINITION. CMP, ADC, SBC (42_arith8.md R279 to R324).
In each meaning the opcode byte has been fetched (R150): PC addresses byte 1. -/

namespace Sys2Proof.Machine

open Sys2Proof

/-- `CMP A,#i` (R283). -/
def execCmpAImm (i : Byte) (s : State) : Answer :=
  cmpRegImm Cpu.a i 2 s

/-- `CMP A,(X)` (R284). -/
def execCmpAIx (s : State) : Answer :=
  cmpReg Cpu.a .ix 3 s

/-- `CMP A,d` (R285). -/
def execCmpADp (d : Byte) (s : State) : Answer :=
  cmpReg Cpu.a (.dp d) 3 s

/-- `CMP A,d+X` (R286). -/
def execCmpADpX (d : Byte) (s : State) : Answer :=
  cmpReg Cpu.a (.dpX d) 4 s

/-- `CMP A,!a` (R287). -/
def execCmpAAbs (a : Word) (s : State) : Answer :=
  cmpReg Cpu.a (.abs a) 4 s

/-- `CMP A,!a+X` (R288). -/
def execCmpAAbsX (a : Word) (s : State) : Answer :=
  cmpReg Cpu.a (.absX a) 5 s

/-- `CMP A,!a+Y` (R289). -/
def execCmpAAbsY (a : Word) (s : State) : Answer :=
  cmpReg Cpu.a (.absY a) 5 s

/-- `CMP A,[d+X]` (R290). -/
def execCmpAIndX (d : Byte) (s : State) : Answer :=
  cmpReg Cpu.a (.indX d) 6 s

/-- `CMP A,[d]+Y` (R291). -/
def execCmpAIndY (d : Byte) (s : State) : Answer :=
  cmpReg Cpu.a (.indY d) 6 s

/-- `CMP (X),(Y)` (R292). -/
def execCmpIxIy (s : State) : Answer :=
  cmpIxIy 5 s

/-- `CMP dd,ds` (R293). -/
def execCmpDpDp (ds : Byte) (dd : Byte) (s : State) : Answer :=
  cmpDpDp ds dd 6 s

/-- `CMP d,#i` (R294). -/
def execCmpDpImm (i : Byte) (d : Byte) (s : State) : Answer :=
  cmpDpImm i d 5 s

/-- `ADC A,#i` (R295). -/
def execAdcAImm (i : Byte) (s : State) : Answer :=
  aluAImm adc8 i 2 s

/-- `ADC A,(X)` (R296). -/
def execAdcAIx (s : State) : Answer :=
  aluA adc8 .ix 3 s

/-- `ADC A,d` (R297). -/
def execAdcADp (d : Byte) (s : State) : Answer :=
  aluA adc8 (.dp d) 3 s

/-- `ADC A,d+X` (R298). -/
def execAdcADpX (d : Byte) (s : State) : Answer :=
  aluA adc8 (.dpX d) 4 s

/-- `ADC A,!a` (R299). -/
def execAdcAAbs (a : Word) (s : State) : Answer :=
  aluA adc8 (.abs a) 4 s

/-- `ADC A,!a+X` (R300). -/
def execAdcAAbsX (a : Word) (s : State) : Answer :=
  aluA adc8 (.absX a) 5 s

/-- `ADC A,!a+Y` (R301). -/
def execAdcAAbsY (a : Word) (s : State) : Answer :=
  aluA adc8 (.absY a) 5 s

/-- `ADC A,[d+X]` (R302). -/
def execAdcAIndX (d : Byte) (s : State) : Answer :=
  aluA adc8 (.indX d) 6 s

/-- `ADC A,[d]+Y` (R303). -/
def execAdcAIndY (d : Byte) (s : State) : Answer :=
  aluA adc8 (.indY d) 6 s

/-- `ADC (X),(Y)` (R304). -/
def execAdcIxIy (s : State) : Answer :=
  aluIxIy adc8 5 s

/-- `ADC dd,ds` (R305). -/
def execAdcDpDp (ds : Byte) (dd : Byte) (s : State) : Answer :=
  aluDpDp adc8 ds dd 6 s

/-- `ADC d,#i` (R306). -/
def execAdcDpImm (i : Byte) (d : Byte) (s : State) : Answer :=
  aluDpImm adc8 i d 5 s

/-- `SBC A,#i` (R307). -/
def execSbcAImm (i : Byte) (s : State) : Answer :=
  aluAImm sbc8 i 2 s

/-- `SBC A,(X)` (R308). -/
def execSbcAIx (s : State) : Answer :=
  aluA sbc8 .ix 3 s

/-- `SBC A,d` (R309). -/
def execSbcADp (d : Byte) (s : State) : Answer :=
  aluA sbc8 (.dp d) 3 s

/-- `SBC A,d+X` (R310). -/
def execSbcADpX (d : Byte) (s : State) : Answer :=
  aluA sbc8 (.dpX d) 4 s

/-- `SBC A,!a` (R311). -/
def execSbcAAbs (a : Word) (s : State) : Answer :=
  aluA sbc8 (.abs a) 4 s

/-- `SBC A,!a+X` (R312). -/
def execSbcAAbsX (a : Word) (s : State) : Answer :=
  aluA sbc8 (.absX a) 5 s

/-- `SBC A,!a+Y` (R313). -/
def execSbcAAbsY (a : Word) (s : State) : Answer :=
  aluA sbc8 (.absY a) 5 s

/-- `SBC A,[d+X]` (R314). -/
def execSbcAIndX (d : Byte) (s : State) : Answer :=
  aluA sbc8 (.indX d) 6 s

/-- `SBC A,[d]+Y` (R315). -/
def execSbcAIndY (d : Byte) (s : State) : Answer :=
  aluA sbc8 (.indY d) 6 s

/-- `SBC (X),(Y)` (R316). -/
def execSbcIxIy (s : State) : Answer :=
  aluIxIy sbc8 5 s

/-- `SBC dd,ds` (R317). -/
def execSbcDpDp (ds : Byte) (dd : Byte) (s : State) : Answer :=
  aluDpDp sbc8 ds dd 6 s

/-- `SBC d,#i` (R318). -/
def execSbcDpImm (i : Byte) (d : Byte) (s : State) : Answer :=
  aluDpImm sbc8 i d 5 s

/-- `CMP X,#i` (R319). -/
def execCmpXImm (i : Byte) (s : State) : Answer :=
  cmpRegImm Cpu.x i 2 s

/-- `CMP X,d` (R320). -/
def execCmpXDp (d : Byte) (s : State) : Answer :=
  cmpReg Cpu.x (.dp d) 3 s

/-- `CMP X,!a` (R321). -/
def execCmpXAbs (a : Word) (s : State) : Answer :=
  cmpReg Cpu.x (.abs a) 4 s

/-- `CMP Y,#i` (R322). -/
def execCmpYImm (i : Byte) (s : State) : Answer :=
  cmpRegImm Cpu.y i 2 s

/-- `CMP Y,d` (R323). -/
def execCmpYDp (d : Byte) (s : State) : Answer :=
  cmpReg Cpu.y (.dp d) 3 s

/-- `CMP Y,!a` (R324). -/
def execCmpYAbs (a : Word) (s : State) : Answer :=
  cmpReg Cpu.y (.abs a) 4 s

end Sys2Proof.Machine
end

