-- ==== Sys2Proof/Machine/BitFlag.lean ====
section
/-! DEFINITION. The bit and flag instructions (45_bit_flag.md R367 to R387).
In each meaning the opcode byte has been fetched (R150): PC addresses byte 1. -/

namespace Sys2Proof.Machine

open Sys2Proof

/-- `SET1 d.0` (R368). -/
def execSet1B0 (d : Byte) (s : State) : Answer :=
  rewrite (fun v => withBit v 0 true) (.dp d) 4 s

/-- `SET1 d.1` (R368). -/
def execSet1B1 (d : Byte) (s : State) : Answer :=
  rewrite (fun v => withBit v 1 true) (.dp d) 4 s

/-- `SET1 d.2` (R368). -/
def execSet1B2 (d : Byte) (s : State) : Answer :=
  rewrite (fun v => withBit v 2 true) (.dp d) 4 s

/-- `SET1 d.3` (R368). -/
def execSet1B3 (d : Byte) (s : State) : Answer :=
  rewrite (fun v => withBit v 3 true) (.dp d) 4 s

/-- `SET1 d.4` (R368). -/
def execSet1B4 (d : Byte) (s : State) : Answer :=
  rewrite (fun v => withBit v 4 true) (.dp d) 4 s

/-- `SET1 d.5` (R368). -/
def execSet1B5 (d : Byte) (s : State) : Answer :=
  rewrite (fun v => withBit v 5 true) (.dp d) 4 s

/-- `SET1 d.6` (R368). -/
def execSet1B6 (d : Byte) (s : State) : Answer :=
  rewrite (fun v => withBit v 6 true) (.dp d) 4 s

/-- `SET1 d.7` (R368). -/
def execSet1B7 (d : Byte) (s : State) : Answer :=
  rewrite (fun v => withBit v 7 true) (.dp d) 4 s

/-- `CLR1 d.0` (R369). -/
def execClr1B0 (d : Byte) (s : State) : Answer :=
  rewrite (fun v => withBit v 0 false) (.dp d) 4 s

/-- `CLR1 d.1` (R369). -/
def execClr1B1 (d : Byte) (s : State) : Answer :=
  rewrite (fun v => withBit v 1 false) (.dp d) 4 s

/-- `CLR1 d.2` (R369). -/
def execClr1B2 (d : Byte) (s : State) : Answer :=
  rewrite (fun v => withBit v 2 false) (.dp d) 4 s

/-- `CLR1 d.3` (R369). -/
def execClr1B3 (d : Byte) (s : State) : Answer :=
  rewrite (fun v => withBit v 3 false) (.dp d) 4 s

/-- `CLR1 d.4` (R369). -/
def execClr1B4 (d : Byte) (s : State) : Answer :=
  rewrite (fun v => withBit v 4 false) (.dp d) 4 s

/-- `CLR1 d.5` (R369). -/
def execClr1B5 (d : Byte) (s : State) : Answer :=
  rewrite (fun v => withBit v 5 false) (.dp d) 4 s

/-- `CLR1 d.6` (R369). -/
def execClr1B6 (d : Byte) (s : State) : Answer :=
  rewrite (fun v => withBit v 6 false) (.dp d) 4 s

/-- `CLR1 d.7` (R369). -/
def execClr1B7 (d : Byte) (s : State) : Answer :=
  rewrite (fun v => withBit v 7 false) (.dp d) 4 s

/-- `TSET1 !a` (R370). -/
def execTset1Abs (a : Word) (s : State) : Answer :=
  let v := (Mode.abs a).value s
  let s := (Mode.abs a).readState s
  .next (((s.setPsw (testFlags s.cpu.psw s.cpu.a v)).memWrite a (v ||| s.cpu.a)).spend 6)

/-- `TCLR1 !a` (R371). -/
def execTclr1Abs (a : Word) (s : State) : Answer :=
  let v := (Mode.abs a).value s
  let s := (Mode.abs a).readState s
  .next (((s.setPsw (testFlags s.cpu.psw s.cpu.a v)).memWrite a (v &&& (s.cpu.a ^^^ 0xFF#8))).spend 6)

/-- `OR1 C,m.b` (R372). -/
def execOr1CMb (m : Word) (b : Nat) (s : State) : Answer :=
  carryBit (fun c x => c || x) m b 5 s

/-- `OR1 C,/m.b` (R373). -/
def execOr1CNotMb (m : Word) (b : Nat) (s : State) : Answer :=
  carryBit (fun c x => c || !x) m b 5 s

/-- `AND1 C,m.b` (R374). -/
def execAnd1CMb (m : Word) (b : Nat) (s : State) : Answer :=
  carryBit (fun c x => c && x) m b 4 s

/-- `AND1 C,/m.b` (R375). -/
def execAnd1CNotMb (m : Word) (b : Nat) (s : State) : Answer :=
  carryBit (fun c x => c && !x) m b 4 s

/-- `EOR1 C,m.b` (R376). -/
def execEor1CMb (m : Word) (b : Nat) (s : State) : Answer :=
  carryBit (fun c x => Bool.xor c x) m b 5 s

/-- `MOV1 C,m.b` (R377). -/
def execMov1CMb (m : Word) (b : Nat) (s : State) : Answer :=
  carryBit (fun _ x => x) m b 4 s

/-- `MOV1 m.b,C` (R378). -/
def execMov1MbC (m : Word) (b : Nat) (s : State) : Answer :=
  rewrite (fun v => withBit v b (s.flag .c)) (.abs m) 6 s

/-- `NOT1 m.b` (R379). -/
def execNot1Mb (m : Word) (b : Nat) (s : State) : Answer :=
  rewrite (fun v => v ^^^ (1#8 <<< b)) (.abs m) 5 s

/-- `CLRC` (R380). -/
def execClrc (s : State) : Answer :=
  .next ((s.putFlag .c false).spend 2)

/-- `SETC` (R381). -/
def execSetc (s : State) : Answer :=
  .next ((s.putFlag .c true).spend 2)

/-- `NOTC` (R382). -/
def execNotc (s : State) : Answer :=
  .next ((s.putFlag .c (!s.flag .c)).spend 3)

/-- `CLRV` (R383). -/
def execClrv (s : State) : Answer :=
  .next (((s.putFlag .v false).putFlag .h false).spend 2)

/-- `CLRP` (R384). -/
def execClrp (s : State) : Answer :=
  .next ((s.putFlag .p false).spend 2)

/-- `SETP` (R385). -/
def execSetp (s : State) : Answer :=
  .next ((s.putFlag .p true).spend 2)

/-- `EI` (R386). -/
def execEi (s : State) : Answer :=
  .next ((s.putFlag .i true).spend 3)

/-- `DI` (R387). -/
def execDi (s : State) : Answer :=
  .next ((s.putFlag .i false).spend 3)

end Sys2Proof.Machine
end

