-- ==== Sys2Proof/Machine/Control.lean ====
section
/-! DEFINITION. Branches, jumps, calls, returns, stack, NOP, SLEEP, STOP (46_control_stack_system.md R388 to R422).
In each meaning the opcode byte has been fetched (R150): PC addresses byte 1. -/

namespace Sys2Proof.Machine

open Sys2Proof

/-- `BRA rel` (R389). -/
def execBra (rel : Byte) (s : State) : Answer :=
  .next ((s.passOperand.branch rel).spend 4)

/-- `BEQ rel` (R390). -/
def execBeq (rel : Byte) (s : State) : Answer :=
  branchFlag .z true rel s

/-- `BNE rel` (R391). -/
def execBne (rel : Byte) (s : State) : Answer :=
  branchFlag .z false rel s

/-- `BCS rel` (R392). -/
def execBcs (rel : Byte) (s : State) : Answer :=
  branchFlag .c true rel s

/-- `BCC rel` (R393). -/
def execBcc (rel : Byte) (s : State) : Answer :=
  branchFlag .c false rel s

/-- `BVS rel` (R394). -/
def execBvs (rel : Byte) (s : State) : Answer :=
  branchFlag .v true rel s

/-- `BVC rel` (R395). -/
def execBvc (rel : Byte) (s : State) : Answer :=
  branchFlag .v false rel s

/-- `BMI rel` (R396). -/
def execBmi (rel : Byte) (s : State) : Answer :=
  branchFlag .n true rel s

/-- `BPL rel` (R397). -/
def execBpl (rel : Byte) (s : State) : Answer :=
  branchFlag .n false rel s

/-- `BBS d.0,rel` (R398). -/
def execBbsB0 (d : Byte) (rel : Byte) (s : State) : Answer :=
  branchByte (fun _ v => v.getLsbD 0) (.dp d) rel 5 s

/-- `BBS d.1,rel` (R398). -/
def execBbsB1 (d : Byte) (rel : Byte) (s : State) : Answer :=
  branchByte (fun _ v => v.getLsbD 1) (.dp d) rel 5 s

/-- `BBS d.2,rel` (R398). -/
def execBbsB2 (d : Byte) (rel : Byte) (s : State) : Answer :=
  branchByte (fun _ v => v.getLsbD 2) (.dp d) rel 5 s

/-- `BBS d.3,rel` (R398). -/
def execBbsB3 (d : Byte) (rel : Byte) (s : State) : Answer :=
  branchByte (fun _ v => v.getLsbD 3) (.dp d) rel 5 s

/-- `BBS d.4,rel` (R398). -/
def execBbsB4 (d : Byte) (rel : Byte) (s : State) : Answer :=
  branchByte (fun _ v => v.getLsbD 4) (.dp d) rel 5 s

/-- `BBS d.5,rel` (R398). -/
def execBbsB5 (d : Byte) (rel : Byte) (s : State) : Answer :=
  branchByte (fun _ v => v.getLsbD 5) (.dp d) rel 5 s

/-- `BBS d.6,rel` (R398). -/
def execBbsB6 (d : Byte) (rel : Byte) (s : State) : Answer :=
  branchByte (fun _ v => v.getLsbD 6) (.dp d) rel 5 s

/-- `BBS d.7,rel` (R398). -/
def execBbsB7 (d : Byte) (rel : Byte) (s : State) : Answer :=
  branchByte (fun _ v => v.getLsbD 7) (.dp d) rel 5 s

/-- `BBC d.0,rel` (R399). -/
def execBbcB0 (d : Byte) (rel : Byte) (s : State) : Answer :=
  branchByte (fun _ v => !v.getLsbD 0) (.dp d) rel 5 s

/-- `BBC d.1,rel` (R399). -/
def execBbcB1 (d : Byte) (rel : Byte) (s : State) : Answer :=
  branchByte (fun _ v => !v.getLsbD 1) (.dp d) rel 5 s

/-- `BBC d.2,rel` (R399). -/
def execBbcB2 (d : Byte) (rel : Byte) (s : State) : Answer :=
  branchByte (fun _ v => !v.getLsbD 2) (.dp d) rel 5 s

/-- `BBC d.3,rel` (R399). -/
def execBbcB3 (d : Byte) (rel : Byte) (s : State) : Answer :=
  branchByte (fun _ v => !v.getLsbD 3) (.dp d) rel 5 s

/-- `BBC d.4,rel` (R399). -/
def execBbcB4 (d : Byte) (rel : Byte) (s : State) : Answer :=
  branchByte (fun _ v => !v.getLsbD 4) (.dp d) rel 5 s

/-- `BBC d.5,rel` (R399). -/
def execBbcB5 (d : Byte) (rel : Byte) (s : State) : Answer :=
  branchByte (fun _ v => !v.getLsbD 5) (.dp d) rel 5 s

/-- `BBC d.6,rel` (R399). -/
def execBbcB6 (d : Byte) (rel : Byte) (s : State) : Answer :=
  branchByte (fun _ v => !v.getLsbD 6) (.dp d) rel 5 s

/-- `BBC d.7,rel` (R399). -/
def execBbcB7 (d : Byte) (rel : Byte) (s : State) : Answer :=
  branchByte (fun _ v => !v.getLsbD 7) (.dp d) rel 5 s

/-- `CBNE d,rel` (R400). -/
def execCbneDp (d : Byte) (rel : Byte) (s : State) : Answer :=
  branchByte (fun c v => c.a != v) (.dp d) rel 5 s

/-- `CBNE d+X,rel` (R401). -/
def execCbneDpX (d : Byte) (rel : Byte) (s : State) : Answer :=
  branchByte (fun c v => c.a != v) (.dpX d) rel 6 s

/-- `DBNZ d,rel` (R402). -/
def execDbnzDp (d : Byte) (rel : Byte) (s : State) : Answer :=
  let v := (Mode.dp d).value s
  let a := (Mode.dp d).addr s
  let t := ((Mode.dp d).readState s).memWrite a (v - 1)
  .next (t.passOperand.branchIf (v - 1 != 0) (t.lateOperand s rel) 5)

/-- `DBNZ Y,rel` (R403). -/
def execDbnzY (rel : Byte) (s : State) : Answer :=
  let s := s.passOperand.setY (s.cpu.y - 1)
  .next (s.branchIf (s.cpu.y != 0) rel 4)

/-- `JMP !a` (R404). -/
def execJmpAbs (a : Word) (s : State) : Answer :=
  .next ((s.passOperand.passOperand.setPc a).spend 3)

/-- `JMP [!a+X]` (R405). -/
def execJmpIndAbsX (a : Word) (s : State) : Answer :=
  let s := s.passOperand.passOperand
  let p := a + zext16 s.cpu.x
  .next (((s.touchWord p).setPc (s.word p)).spend 6)

/-- `CALL !a` (R406). -/
def execCallAbs (a : Word) (s : State) : Answer :=
  .next ((s.passOperand.passOperand.call a).spend 8)

/-- `PCALL u` (R407). -/
def execPcall (u : Byte) (s : State) : Answer :=
  .next ((s.passOperand.call (wordOf 0xFF u)).spend 6)

/-- `TCALL 0` (R408). -/
def execTcall0 (s : State) : Answer :=
  .next ((s.callVector (vectorAddr 0)).spend 8)

/-- `TCALL 1` (R408). -/
def execTcall1 (s : State) : Answer :=
  .next ((s.callVector (vectorAddr 1)).spend 8)

/-- `TCALL 2` (R408). -/
def execTcall2 (s : State) : Answer :=
  .next ((s.callVector (vectorAddr 2)).spend 8)

/-- `TCALL 3` (R408). -/
def execTcall3 (s : State) : Answer :=
  .next ((s.callVector (vectorAddr 3)).spend 8)

/-- `TCALL 4` (R408). -/
def execTcall4 (s : State) : Answer :=
  .next ((s.callVector (vectorAddr 4)).spend 8)

/-- `TCALL 5` (R408). -/
def execTcall5 (s : State) : Answer :=
  .next ((s.callVector (vectorAddr 5)).spend 8)

/-- `TCALL 6` (R408). -/
def execTcall6 (s : State) : Answer :=
  .next ((s.callVector (vectorAddr 6)).spend 8)

/-- `TCALL 7` (R408). -/
def execTcall7 (s : State) : Answer :=
  .next ((s.callVector (vectorAddr 7)).spend 8)

/-- `TCALL 8` (R408). -/
def execTcall8 (s : State) : Answer :=
  .next ((s.callVector (vectorAddr 8)).spend 8)

/-- `TCALL 9` (R408). -/
def execTcall9 (s : State) : Answer :=
  .next ((s.callVector (vectorAddr 9)).spend 8)

/-- `TCALL 10` (R408). -/
def execTcall10 (s : State) : Answer :=
  .next ((s.callVector (vectorAddr 10)).spend 8)

/-- `TCALL 11` (R408). -/
def execTcall11 (s : State) : Answer :=
  .next ((s.callVector (vectorAddr 11)).spend 8)

/-- `TCALL 12` (R408). -/
def execTcall12 (s : State) : Answer :=
  .next ((s.callVector (vectorAddr 12)).spend 8)

/-- `TCALL 13` (R408). -/
def execTcall13 (s : State) : Answer :=
  .next ((s.callVector (vectorAddr 13)).spend 8)

/-- `TCALL 14` (R408). -/
def execTcall14 (s : State) : Answer :=
  .next ((s.callVector (vectorAddr 14)).spend 8)

/-- `TCALL 15` (R408). -/
def execTcall15 (s : State) : Answer :=
  .next ((s.callVector (vectorAddr 15)).spend 8)

/-- `BRK` (R409). -/
def execBrk (s : State) : Answer :=
  .next (s.takeBreak.spend 8)

/-- `RET` (R410). -/
def execRet (s : State) : Answer :=
  .next ((s.drop16.setPc s.top16).spend 5)

/-- `RETI` (R411). -/
def execReti (s : State) : Answer :=
  .next (s.returnFromBreak.spend 6)

/-- `PUSH A` (R412). -/
def execPushA (s : State) : Answer :=
  push Cpu.a s

/-- `PUSH X` (R413). -/
def execPushX (s : State) : Answer :=
  push Cpu.x s

/-- `PUSH Y` (R414). -/
def execPushY (s : State) : Answer :=
  push Cpu.y s

/-- `PUSH PSW` (R415). -/
def execPushPsw (s : State) : Answer :=
  push Cpu.psw s

/-- `POP A` (R416). -/
def execPopA (s : State) : Answer :=
  .next ((s.drop8.setA s.top8).spend 4)

/-- `POP X` (R417). -/
def execPopX (s : State) : Answer :=
  .next ((s.drop8.setX s.top8).spend 4)

/-- `POP Y` (R418). -/
def execPopY (s : State) : Answer :=
  .next ((s.drop8.setY s.top8).spend 4)

/-- `POP PSW` (R419). -/
def execPopPsw (s : State) : Answer :=
  .next ((s.drop8.setPsw s.top8).spend 4)

/-- `NOP` (R420). -/
def execNop (s : State) : Answer :=
  .next (s.spend 2)

/-- `SLEEP` (R421). -/
def execSleep (s : State) : Answer :=
  .next ((s.halt .sleeping .sleeping).spend 3)

/-- `STOP` (R422). -/
def execStop (s : State) : Answer :=
  .next ((s.halt .stopped .stopped).spend 3)

end Sys2Proof.Machine
end

