-- ==== Sys2Proof/Machine/Logic.lean ====
section
/-! DEFINITION. OR, AND, EOR (41_logic8.md R242 to R278).
In each meaning the opcode byte has been fetched (R150): PC addresses byte 1. -/

namespace Sys2Proof.Machine

open Sys2Proof

/-- `OR A,#i` (R243). -/
def execOrAImm (i : Byte) (s : State) : Answer :=
  aluAImm or8 i 2 s

/-- `OR A,(X)` (R244). -/
def execOrAIx (s : State) : Answer :=
  aluA or8 .ix 3 s

/-- `OR A,d` (R245). -/
def execOrADp (d : Byte) (s : State) : Answer :=
  aluA or8 (.dp d) 3 s

/-- `OR A,d+X` (R246). -/
def execOrADpX (d : Byte) (s : State) : Answer :=
  aluA or8 (.dpX d) 4 s

/-- `OR A,!a` (R247). -/
def execOrAAbs (a : Word) (s : State) : Answer :=
  aluA or8 (.abs a) 4 s

/-- `OR A,!a+X` (R248). -/
def execOrAAbsX (a : Word) (s : State) : Answer :=
  aluA or8 (.absX a) 5 s

/-- `OR A,!a+Y` (R249). -/
def execOrAAbsY (a : Word) (s : State) : Answer :=
  aluA or8 (.absY a) 5 s

/-- `OR A,[d+X]` (R250). -/
def execOrAIndX (d : Byte) (s : State) : Answer :=
  aluA or8 (.indX d) 6 s

/-- `OR A,[d]+Y` (R251). -/
def execOrAIndY (d : Byte) (s : State) : Answer :=
  aluA or8 (.indY d) 6 s

/-- `OR (X),(Y)` (R252). -/
def execOrIxIy (s : State) : Answer :=
  aluIxIy or8 5 s

/-- `OR dd,ds` (R253). -/
def execOrDpDp (ds : Byte) (dd : Byte) (s : State) : Answer :=
  aluDpDp or8 ds dd 6 s

/-- `OR d,#i` (R254). -/
def execOrDpImm (i : Byte) (d : Byte) (s : State) : Answer :=
  aluDpImm or8 i d 5 s

/-- `AND A,#i` (R255). -/
def execAndAImm (i : Byte) (s : State) : Answer :=
  aluAImm and8 i 2 s

/-- `AND A,(X)` (R256). -/
def execAndAIx (s : State) : Answer :=
  aluA and8 .ix 3 s

/-- `AND A,d` (R257). -/
def execAndADp (d : Byte) (s : State) : Answer :=
  aluA and8 (.dp d) 3 s

/-- `AND A,d+X` (R258). -/
def execAndADpX (d : Byte) (s : State) : Answer :=
  aluA and8 (.dpX d) 4 s

/-- `AND A,!a` (R259). -/
def execAndAAbs (a : Word) (s : State) : Answer :=
  aluA and8 (.abs a) 4 s

/-- `AND A,!a+X` (R260). -/
def execAndAAbsX (a : Word) (s : State) : Answer :=
  aluA and8 (.absX a) 5 s

/-- `AND A,!a+Y` (R261). -/
def execAndAAbsY (a : Word) (s : State) : Answer :=
  aluA and8 (.absY a) 5 s

/-- `AND A,[d+X]` (R262). -/
def execAndAIndX (d : Byte) (s : State) : Answer :=
  aluA and8 (.indX d) 6 s

/-- `AND A,[d]+Y` (R263). -/
def execAndAIndY (d : Byte) (s : State) : Answer :=
  aluA and8 (.indY d) 6 s

/-- `AND (X),(Y)` (R264). -/
def execAndIxIy (s : State) : Answer :=
  aluIxIy and8 5 s

/-- `AND dd,ds` (R265). -/
def execAndDpDp (ds : Byte) (dd : Byte) (s : State) : Answer :=
  aluDpDp and8 ds dd 6 s

/-- `AND d,#i` (R266). -/
def execAndDpImm (i : Byte) (d : Byte) (s : State) : Answer :=
  aluDpImm and8 i d 5 s

/-- `EOR A,#i` (R267). -/
def execEorAImm (i : Byte) (s : State) : Answer :=
  aluAImm eor8 i 2 s

/-- `EOR A,(X)` (R268). -/
def execEorAIx (s : State) : Answer :=
  aluA eor8 .ix 3 s

/-- `EOR A,d` (R269). -/
def execEorADp (d : Byte) (s : State) : Answer :=
  aluA eor8 (.dp d) 3 s

/-- `EOR A,d+X` (R270). -/
def execEorADpX (d : Byte) (s : State) : Answer :=
  aluA eor8 (.dpX d) 4 s

/-- `EOR A,!a` (R271). -/
def execEorAAbs (a : Word) (s : State) : Answer :=
  aluA eor8 (.abs a) 4 s

/-- `EOR A,!a+X` (R272). -/
def execEorAAbsX (a : Word) (s : State) : Answer :=
  aluA eor8 (.absX a) 5 s

/-- `EOR A,!a+Y` (R273). -/
def execEorAAbsY (a : Word) (s : State) : Answer :=
  aluA eor8 (.absY a) 5 s

/-- `EOR A,[d+X]` (R274). -/
def execEorAIndX (d : Byte) (s : State) : Answer :=
  aluA eor8 (.indX d) 6 s

/-- `EOR A,[d]+Y` (R275). -/
def execEorAIndY (d : Byte) (s : State) : Answer :=
  aluA eor8 (.indY d) 6 s

/-- `EOR (X),(Y)` (R276). -/
def execEorIxIy (s : State) : Answer :=
  aluIxIy eor8 5 s

/-- `EOR dd,ds` (R277). -/
def execEorDpDp (ds : Byte) (dd : Byte) (s : State) : Answer :=
  aluDpDp eor8 ds dd 6 s

/-- `EOR d,#i` (R278). -/
def execEorDpImm (i : Byte) (d : Byte) (s : State) : Answer :=
  aluDpImm eor8 i d 5 s

end Sys2Proof.Machine
end

