-- ==== Sys2Proof/Machine/Mov.lean ====
section
/-! DEFINITION. The MOV family (40_mov.md R200 to R241).
In each meaning the opcode byte has been fetched (R150): PC addresses byte 1. -/

namespace Sys2Proof.Machine

open Sys2Proof

/-- `MOV A,#i` (R201). -/
def execMovAImm (i : Byte) (s : State) : Answer :=
  .next ((((s.passOperand).setA i).putNZ8 i).spend 2)

/-- `MOV A,(X)` (R202). -/
def execMovAIx (s : State) : Answer :=
  loadA .ix 3 s

/-- `MOV A,d` (R203). -/
def execMovADp (d : Byte) (s : State) : Answer :=
  loadA (.dp d) 3 s

/-- `MOV A,d+X` (R204). -/
def execMovADpX (d : Byte) (s : State) : Answer :=
  loadA (.dpX d) 4 s

/-- `MOV A,!a` (R205). -/
def execMovAAbs (a : Word) (s : State) : Answer :=
  loadA (.abs a) 4 s

/-- `MOV A,!a+X` (R206). -/
def execMovAAbsX (a : Word) (s : State) : Answer :=
  loadA (.absX a) 5 s

/-- `MOV A,!a+Y` (R207). -/
def execMovAAbsY (a : Word) (s : State) : Answer :=
  loadA (.absY a) 5 s

/-- `MOV A,[d+X]` (R208). -/
def execMovAIndX (d : Byte) (s : State) : Answer :=
  loadA (.indX d) 6 s

/-- `MOV A,[d]+Y` (R209). -/
def execMovAIndY (d : Byte) (s : State) : Answer :=
  loadA (.indY d) 6 s

/-- `MOV X,#i` (R210). -/
def execMovXImm (i : Byte) (s : State) : Answer :=
  .next ((((s.passOperand).setX i).putNZ8 i).spend 2)

/-- `MOV X,d` (R211). -/
def execMovXDp (d : Byte) (s : State) : Answer :=
  loadX (.dp d) 3 s

/-- `MOV X,d+Y` (R212). -/
def execMovXDpY (d : Byte) (s : State) : Answer :=
  loadX (.dpY d) 4 s

/-- `MOV X,!a` (R213). -/
def execMovXAbs (a : Word) (s : State) : Answer :=
  loadX (.abs a) 4 s

/-- `MOV Y,#i` (R214). -/
def execMovYImm (i : Byte) (s : State) : Answer :=
  .next ((((s.passOperand).setY i).putNZ8 i).spend 2)

/-- `MOV Y,d` (R215). -/
def execMovYDp (d : Byte) (s : State) : Answer :=
  loadY (.dp d) 3 s

/-- `MOV Y,d+X` (R216). -/
def execMovYDpX (d : Byte) (s : State) : Answer :=
  loadY (.dpX d) 4 s

/-- `MOV Y,!a` (R217). -/
def execMovYAbs (a : Word) (s : State) : Answer :=
  loadY (.abs a) 4 s

/-- `MOV A,(X)+` (R218). -/
def execMovAIxInc (s : State) : Answer :=
  .next ((((((Mode.ix.readState s).setX (s.cpu.x + 1)).setA (Mode.ix.value s))).putNZ8 (Mode.ix.value s)).spend 4)

/-- `MOV (X),A` (R219). -/
def execMovIxA (s : State) : Answer :=
  store .ix (fun s => s.cpu.a) 4 s

/-- `MOV d,A` (R220). -/
def execMovDpA (d : Byte) (s : State) : Answer :=
  store (.dp d) (fun s => s.cpu.a) 4 s

/-- `MOV d+X,A` (R221). -/
def execMovDpXA (d : Byte) (s : State) : Answer :=
  store (.dpX d) (fun s => s.cpu.a) 5 s

/-- `MOV !a,A` (R222). -/
def execMovAbsA (a : Word) (s : State) : Answer :=
  store (.abs a) (fun s => s.cpu.a) 5 s

/-- `MOV !a+X,A` (R223). -/
def execMovAbsXA (a : Word) (s : State) : Answer :=
  store (.absX a) (fun s => s.cpu.a) 6 s

/-- `MOV !a+Y,A` (R224). -/
def execMovAbsYA (a : Word) (s : State) : Answer :=
  store (.absY a) (fun s => s.cpu.a) 6 s

/-- `MOV [d+X],A` (R225). -/
def execMovIndXA (d : Byte) (s : State) : Answer :=
  store (.indX d) (fun s => s.cpu.a) 7 s

/-- `MOV [d]+Y,A` (R226). -/
def execMovIndYA (d : Byte) (s : State) : Answer :=
  store (.indY d) (fun s => s.cpu.a) 7 s

/-- `MOV d,X` (R227). -/
def execMovDpX (d : Byte) (s : State) : Answer :=
  store (.dp d) (fun s => s.cpu.x) 4 s

/-- `MOV d+Y,X` (R228). -/
def execMovDpYX (d : Byte) (s : State) : Answer :=
  store (.dpY d) (fun s => s.cpu.x) 5 s

/-- `MOV !a,X` (R229). -/
def execMovAbsX (a : Word) (s : State) : Answer :=
  store (.abs a) (fun s => s.cpu.x) 5 s

/-- `MOV d,Y` (R230). -/
def execMovDpY (d : Byte) (s : State) : Answer :=
  store (.dp d) (fun s => s.cpu.y) 4 s

/-- `MOV d+X,Y` (R231). -/
def execMovDpXY (d : Byte) (s : State) : Answer :=
  store (.dpX d) (fun s => s.cpu.y) 5 s

/-- `MOV !a,Y` (R232). -/
def execMovAbsY (a : Word) (s : State) : Answer :=
  store (.abs a) (fun s => s.cpu.y) 5 s

/-- `MOV (X)+,A` (R233). -/
def execMovIxIncA (s : State) : Answer :=
  .next (((s.memWrite (Mode.ix.addr s) s.cpu.a).setX (s.cpu.x + 1)).spend 4)

/-- `MOV A,X` (R234). -/
def execMovAX (s : State) : Answer :=
  .next (((s.setA s.cpu.x).putNZ8 s.cpu.x).spend 2)

/-- `MOV A,Y` (R235). -/
def execMovAY (s : State) : Answer :=
  .next (((s.setA s.cpu.y).putNZ8 s.cpu.y).spend 2)

/-- `MOV X,A` (R236). -/
def execMovXA (s : State) : Answer :=
  .next (((s.setX s.cpu.a).putNZ8 s.cpu.a).spend 2)

/-- `MOV Y,A` (R237). -/
def execMovYA (s : State) : Answer :=
  .next (((s.setY s.cpu.a).putNZ8 s.cpu.a).spend 2)

/-- `MOV X,SP` (R238). -/
def execMovXSp (s : State) : Answer :=
  .next (((s.setX s.cpu.sp).putNZ8 s.cpu.sp).spend 2)

/-- `MOV SP,X` (R239). -/
def execMovSpX (s : State) : Answer :=
  .next ((s.setSp s.cpu.x).spend 2)

/-- `MOV dd,ds` (R240). -/
def execMovDpDp (ds : Byte) (dd : Byte) (s : State) : Answer :=
  let v := (Mode.dp ds).value s
  let s := (Mode.dp ds).readState s
  .next ((((Mode.dp dd).located s).memWrite ((Mode.dp dd).addr s) v).spend 5)

/-- `MOV d,#i` (R241). -/
def execMovDpImm (i : Byte) (d : Byte) (s : State) : Answer :=
  let s := s.passOperand
  let a := (Mode.dp d).addr s
  .next (((((Mode.dp d).located s).dummyRead a).memWrite a i).spend 5)

end Sys2Proof.Machine
end

