-- ==== Sys2Proof/Machine/ShiftIncDec.lean ====
section
/-! DEFINITION. ASL, ROL, LSR, ROR, DEC, INC, XCN (43_shift_incdec.md R325 to R354).
In each meaning the opcode byte has been fetched (R150): PC addresses byte 1. -/

namespace Sys2Proof.Machine

open Sys2Proof

/-- `ASL A` (R326). -/
def execAslA (s : State) : Answer :=
  unA asl8 2 s

/-- `ASL d` (R327). -/
def execAslDp (d : Byte) (s : State) : Answer :=
  unMem asl8 (.dp d) 4 s

/-- `ASL d+X` (R328). -/
def execAslDpX (d : Byte) (s : State) : Answer :=
  unMem asl8 (.dpX d) 5 s

/-- `ASL !a` (R329). -/
def execAslAbs (a : Word) (s : State) : Answer :=
  unMem asl8 (.abs a) 5 s

/-- `ROL A` (R330). -/
def execRolA (s : State) : Answer :=
  unA rol8 2 s

/-- `ROL d` (R331). -/
def execRolDp (d : Byte) (s : State) : Answer :=
  unMem rol8 (.dp d) 4 s

/-- `ROL d+X` (R332). -/
def execRolDpX (d : Byte) (s : State) : Answer :=
  unMem rol8 (.dpX d) 5 s

/-- `ROL !a` (R333). -/
def execRolAbs (a : Word) (s : State) : Answer :=
  unMem rol8 (.abs a) 5 s

/-- `LSR A` (R334). -/
def execLsrA (s : State) : Answer :=
  unA lsr8 2 s

/-- `LSR d` (R335). -/
def execLsrDp (d : Byte) (s : State) : Answer :=
  unMem lsr8 (.dp d) 4 s

/-- `LSR d+X` (R336). -/
def execLsrDpX (d : Byte) (s : State) : Answer :=
  unMem lsr8 (.dpX d) 5 s

/-- `LSR !a` (R337). -/
def execLsrAbs (a : Word) (s : State) : Answer :=
  unMem lsr8 (.abs a) 5 s

/-- `ROR A` (R338). -/
def execRorA (s : State) : Answer :=
  unA ror8 2 s

/-- `ROR d` (R339). -/
def execRorDp (d : Byte) (s : State) : Answer :=
  unMem ror8 (.dp d) 4 s

/-- `ROR d+X` (R340). -/
def execRorDpX (d : Byte) (s : State) : Answer :=
  unMem ror8 (.dpX d) 5 s

/-- `ROR !a` (R341). -/
def execRorAbs (a : Word) (s : State) : Answer :=
  unMem ror8 (.abs a) 5 s

/-- `DEC A` (R342). -/
def execDecA (s : State) : Answer :=
  unA dec8 2 s

/-- `DEC d` (R343). -/
def execDecDp (d : Byte) (s : State) : Answer :=
  unMem dec8 (.dp d) 4 s

/-- `DEC d+X` (R344). -/
def execDecDpX (d : Byte) (s : State) : Answer :=
  unMem dec8 (.dpX d) 5 s

/-- `DEC !a` (R345). -/
def execDecAbs (a : Word) (s : State) : Answer :=
  unMem dec8 (.abs a) 5 s

/-- `DEC X` (R346). -/
def execDecX (s : State) : Answer :=
  unX dec8 2 s

/-- `DEC Y` (R347). -/
def execDecY (s : State) : Answer :=
  unY dec8 2 s

/-- `INC A` (R348). -/
def execIncA (s : State) : Answer :=
  unA inc8 2 s

/-- `INC d` (R349). -/
def execIncDp (d : Byte) (s : State) : Answer :=
  unMem inc8 (.dp d) 4 s

/-- `INC d+X` (R350). -/
def execIncDpX (d : Byte) (s : State) : Answer :=
  unMem inc8 (.dpX d) 5 s

/-- `INC !a` (R351). -/
def execIncAbs (a : Word) (s : State) : Answer :=
  unMem inc8 (.abs a) 5 s

/-- `INC X` (R352). -/
def execIncX (s : State) : Answer :=
  unX inc8 2 s

/-- `INC Y` (R353). -/
def execIncY (s : State) : Answer :=
  unY inc8 2 s

/-- `XCN A` (R354). -/
def execXcn (s : State) : Answer :=
  unA xcn8 5 s

end Sys2Proof.Machine
end

