-- ==== Sys2Proof/Machine/WordMulDiv.lean ====
section
/-! DEFINITION. MOVW, INCW, DECW, ADDW, SUBW, CMPW, MUL, DIV, DAA, DAS (44_word_muldiv_bcd.md R355 to R366).
In each meaning the opcode byte has been fetched (R150): PC addresses byte 1. -/

namespace Sys2Proof.Machine

open Sys2Proof

/-- `MOVW YA,d` (R356). -/
def execMovwYADp (d : Byte) (s : State) : Answer :=
  let s := s.passOperand
  .next ((((s.touchDpWord d).setYA (s.dpWord d)).putNZ16 (s.dpWord d)).spend 5)

/-- `MOVW d,YA` (R357). -/
def execMovwDpYA (d : Byte) (s : State) : Answer :=
  let s := s.passOperand
  let s := (s.dummyRead (s.dpAddr d)).memWrite (s.dpAddr d) s.cpu.a
  .next ((s.memWrite (s.dpAddr (d + 1)) s.cpu.y).spend 5)

/-- `INCW d` (R358). -/
def execIncwDp (d : Byte) (s : State) : Answer :=
  wordStep (fun lo => lo + 1) (fun w => w + 1) d 6 s

/-- `DECW d` (R359). -/
def execDecwDp (d : Byte) (s : State) : Answer :=
  wordStep (fun lo => lo - 1) (fun w => w - 1) d 6 s

/-- `ADDW YA,d` (R360). -/
def execAddwYADp (d : Byte) (s : State) : Answer :=
  wordYA addw16 d 5 s

/-- `SUBW YA,d` (R361). -/
def execSubwYADp (d : Byte) (s : State) : Answer :=
  wordYA subw16 d 5 s

/-- `CMPW YA,d` (R362). -/
def execCmpwYADp (d : Byte) (s : State) : Answer :=
  let s := s.passOperand
  let w := s.dpWord d
  let s := s.touchDpWord d
  .next ((s.setPsw (cmpw16 s.cpu.psw s.ya w)).spend 4)

/-- `MUL YA` (R363). -/
def execMul (s : State) : Answer :=
  let r := mul8 s.cpu.psw s.cpu.y s.cpu.a
  .next (((s.setYA r.1).setPsw r.2).spend 9)

/-- `DIV YA,X` (R364). -/
def execDiv (s : State) : Answer :=
  let r := div8 s.cpu.psw s.cpu.y s.cpu.a s.cpu.x
  .next (((s.setYA r.1).setPsw r.2).spend 12)

/-- `DAA A` (R365). -/
def execDaa (s : State) : Answer :=
  unA daa8 3 s

/-- `DAS A` (R366). -/
def execDas (s : State) : Answer :=
  unA das8 3 s

end Sys2Proof.Machine
end

