-- ==== Sys2Proof/Machine/Dispatch.lean ====
section
/-! DEFINITION. The dispatch: one arm per instruction, each one call of its meaning. -/

namespace Sys2Proof.Machine

open Sys2Proof

def exec (i : Instr) (s : State) : Host.Outcome State Fault Refusal :=
  match i with
  | .nop => Sys2Proof.Machine.execNop s
  | .tcall0 => Sys2Proof.Machine.execTcall0 s
  | .set1B0 d => Sys2Proof.Machine.execSet1B0 d s
  | .bbsB0 d rel => Sys2Proof.Machine.execBbsB0 d rel s
  | .orADp d => Sys2Proof.Machine.execOrADp d s
  | .orAAbs a => Sys2Proof.Machine.execOrAAbs a s
  | .orAIx => Sys2Proof.Machine.execOrAIx s
  | .orAIndX d => Sys2Proof.Machine.execOrAIndX d s
  | .orAImm imm => Sys2Proof.Machine.execOrAImm imm s
  | .orDpDp ds dd => Sys2Proof.Machine.execOrDpDp ds dd s
  | .or1CMb m b => Sys2Proof.Machine.execOr1CMb m b s
  | .aslDp d => Sys2Proof.Machine.execAslDp d s
  | .aslAbs a => Sys2Proof.Machine.execAslAbs a s
  | .pushPsw => Sys2Proof.Machine.execPushPsw s
  | .tset1Abs a => Sys2Proof.Machine.execTset1Abs a s
  | .brk => Sys2Proof.Machine.execBrk s
  | .bpl rel => Sys2Proof.Machine.execBpl rel s
  | .tcall1 => Sys2Proof.Machine.execTcall1 s
  | .clr1B0 d => Sys2Proof.Machine.execClr1B0 d s
  | .bbcB0 d rel => Sys2Proof.Machine.execBbcB0 d rel s
  | .orADpX d => Sys2Proof.Machine.execOrADpX d s
  | .orAAbsX a => Sys2Proof.Machine.execOrAAbsX a s
  | .orAAbsY a => Sys2Proof.Machine.execOrAAbsY a s
  | .orAIndY d => Sys2Proof.Machine.execOrAIndY d s
  | .orDpImm imm d => Sys2Proof.Machine.execOrDpImm imm d s
  | .orIxIy => Sys2Proof.Machine.execOrIxIy s
  | .decwDp d => Sys2Proof.Machine.execDecwDp d s
  | .aslDpX d => Sys2Proof.Machine.execAslDpX d s
  | .aslA => Sys2Proof.Machine.execAslA s
  | .decX => Sys2Proof.Machine.execDecX s
  | .cmpXAbs a => Sys2Proof.Machine.execCmpXAbs a s
  | .jmpIndAbsX a => Sys2Proof.Machine.execJmpIndAbsX a s
  | .clrp => Sys2Proof.Machine.execClrp s
  | .tcall2 => Sys2Proof.Machine.execTcall2 s
  | .set1B1 d => Sys2Proof.Machine.execSet1B1 d s
  | .bbsB1 d rel => Sys2Proof.Machine.execBbsB1 d rel s
  | .andADp d => Sys2Proof.Machine.execAndADp d s
  | .andAAbs a => Sys2Proof.Machine.execAndAAbs a s
  | .andAIx => Sys2Proof.Machine.execAndAIx s
  | .andAIndX d => Sys2Proof.Machine.execAndAIndX d s
  | .andAImm imm => Sys2Proof.Machine.execAndAImm imm s
  | .andDpDp ds dd => Sys2Proof.Machine.execAndDpDp ds dd s
  | .or1CNotMb m b => Sys2Proof.Machine.execOr1CNotMb m b s
  | .rolDp d => Sys2Proof.Machine.execRolDp d s
  | .rolAbs a => Sys2Proof.Machine.execRolAbs a s
  | .pushA => Sys2Proof.Machine.execPushA s
  | .cbneDp d rel => Sys2Proof.Machine.execCbneDp d rel s
  | .bra rel => Sys2Proof.Machine.execBra rel s
  | .bmi rel => Sys2Proof.Machine.execBmi rel s
  | .tcall3 => Sys2Proof.Machine.execTcall3 s
  | .clr1B1 d => Sys2Proof.Machine.execClr1B1 d s
  | .bbcB1 d rel => Sys2Proof.Machine.execBbcB1 d rel s
  | .andADpX d => Sys2Proof.Machine.execAndADpX d s
  | .andAAbsX a => Sys2Proof.Machine.execAndAAbsX a s
  | .andAAbsY a => Sys2Proof.Machine.execAndAAbsY a s
  | .andAIndY d => Sys2Proof.Machine.execAndAIndY d s
  | .andDpImm imm d => Sys2Proof.Machine.execAndDpImm imm d s
  | .andIxIy => Sys2Proof.Machine.execAndIxIy s
  | .incwDp d => Sys2Proof.Machine.execIncwDp d s
  | .rolDpX d => Sys2Proof.Machine.execRolDpX d s
  | .rolA => Sys2Proof.Machine.execRolA s
  | .incX => Sys2Proof.Machine.execIncX s
  | .cmpXDp d => Sys2Proof.Machine.execCmpXDp d s
  | .callAbs a => Sys2Proof.Machine.execCallAbs a s
  | .setp => Sys2Proof.Machine.execSetp s
  | .tcall4 => Sys2Proof.Machine.execTcall4 s
  | .set1B2 d => Sys2Proof.Machine.execSet1B2 d s
  | .bbsB2 d rel => Sys2Proof.Machine.execBbsB2 d rel s
  | .eorADp d => Sys2Proof.Machine.execEorADp d s
  | .eorAAbs a => Sys2Proof.Machine.execEorAAbs a s
  | .eorAIx => Sys2Proof.Machine.execEorAIx s
  | .eorAIndX d => Sys2Proof.Machine.execEorAIndX d s
  | .eorAImm imm => Sys2Proof.Machine.execEorAImm imm s
  | .eorDpDp ds dd => Sys2Proof.Machine.execEorDpDp ds dd s
  | .and1CMb m b => Sys2Proof.Machine.execAnd1CMb m b s
  | .lsrDp d => Sys2Proof.Machine.execLsrDp d s
  | .lsrAbs a => Sys2Proof.Machine.execLsrAbs a s
  | .pushX => Sys2Proof.Machine.execPushX s
  | .tclr1Abs a => Sys2Proof.Machine.execTclr1Abs a s
  | .pcall u => Sys2Proof.Machine.execPcall u s
  | .bvc rel => Sys2Proof.Machine.execBvc rel s
  | .tcall5 => Sys2Proof.Machine.execTcall5 s
  | .clr1B2 d => Sys2Proof.Machine.execClr1B2 d s
  | .bbcB2 d rel => Sys2Proof.Machine.execBbcB2 d rel s
  | .eorADpX d => Sys2Proof.Machine.execEorADpX d s
  | .eorAAbsX a => Sys2Proof.Machine.execEorAAbsX a s
  | .eorAAbsY a => Sys2Proof.Machine.execEorAAbsY a s
  | .eorAIndY d => Sys2Proof.Machine.execEorAIndY d s
  | .eorDpImm imm d => Sys2Proof.Machine.execEorDpImm imm d s
  | .eorIxIy => Sys2Proof.Machine.execEorIxIy s
  | .cmpwYADp d => Sys2Proof.Machine.execCmpwYADp d s
  | .lsrDpX d => Sys2Proof.Machine.execLsrDpX d s
  | .lsrA => Sys2Proof.Machine.execLsrA s
  | .movXA => Sys2Proof.Machine.execMovXA s
  | .cmpYAbs a => Sys2Proof.Machine.execCmpYAbs a s
  | .jmpAbs a => Sys2Proof.Machine.execJmpAbs a s
  | .clrc => Sys2Proof.Machine.execClrc s
  | .tcall6 => Sys2Proof.Machine.execTcall6 s
  | .set1B3 d => Sys2Proof.Machine.execSet1B3 d s
  | .bbsB3 d rel => Sys2Proof.Machine.execBbsB3 d rel s
  | .cmpADp d => Sys2Proof.Machine.execCmpADp d s
  | .cmpAAbs a => Sys2Proof.Machine.execCmpAAbs a s
  | .cmpAIx => Sys2Proof.Machine.execCmpAIx s
  | .cmpAIndX d => Sys2Proof.Machine.execCmpAIndX d s
  | .cmpAImm imm => Sys2Proof.Machine.execCmpAImm imm s
  | .cmpDpDp ds dd => Sys2Proof.Machine.execCmpDpDp ds dd s
  | .and1CNotMb m b => Sys2Proof.Machine.execAnd1CNotMb m b s
  | .rorDp d => Sys2Proof.Machine.execRorDp d s
  | .rorAbs a => Sys2Proof.Machine.execRorAbs a s
  | .pushY => Sys2Proof.Machine.execPushY s
  | .dbnzDp d rel => Sys2Proof.Machine.execDbnzDp d rel s
  | .ret => Sys2Proof.Machine.execRet s
  | .bvs rel => Sys2Proof.Machine.execBvs rel s
  | .tcall7 => Sys2Proof.Machine.execTcall7 s
  | .clr1B3 d => Sys2Proof.Machine.execClr1B3 d s
  | .bbcB3 d rel => Sys2Proof.Machine.execBbcB3 d rel s
  | .cmpADpX d => Sys2Proof.Machine.execCmpADpX d s
  | .cmpAAbsX a => Sys2Proof.Machine.execCmpAAbsX a s
  | .cmpAAbsY a => Sys2Proof.Machine.execCmpAAbsY a s
  | .cmpAIndY d => Sys2Proof.Machine.execCmpAIndY d s
  | .cmpDpImm imm d => Sys2Proof.Machine.execCmpDpImm imm d s
  | .cmpIxIy => Sys2Proof.Machine.execCmpIxIy s
  | .addwYADp d => Sys2Proof.Machine.execAddwYADp d s
  | .rorDpX d => Sys2Proof.Machine.execRorDpX d s
  | .rorA => Sys2Proof.Machine.execRorA s
  | .movAX => Sys2Proof.Machine.execMovAX s
  | .cmpYDp d => Sys2Proof.Machine.execCmpYDp d s
  | .reti => Sys2Proof.Machine.execReti s
  | .setc => Sys2Proof.Machine.execSetc s
  | .tcall8 => Sys2Proof.Machine.execTcall8 s
  | .set1B4 d => Sys2Proof.Machine.execSet1B4 d s
  | .bbsB4 d rel => Sys2Proof.Machine.execBbsB4 d rel s
  | .adcADp d => Sys2Proof.Machine.execAdcADp d s
  | .adcAAbs a => Sys2Proof.Machine.execAdcAAbs a s
  | .adcAIx => Sys2Proof.Machine.execAdcAIx s
  | .adcAIndX d => Sys2Proof.Machine.execAdcAIndX d s
  | .adcAImm imm => Sys2Proof.Machine.execAdcAImm imm s
  | .adcDpDp ds dd => Sys2Proof.Machine.execAdcDpDp ds dd s
  | .eor1CMb m b => Sys2Proof.Machine.execEor1CMb m b s
  | .decDp d => Sys2Proof.Machine.execDecDp d s
  | .decAbs a => Sys2Proof.Machine.execDecAbs a s
  | .movYImm imm => Sys2Proof.Machine.execMovYImm imm s
  | .popPsw => Sys2Proof.Machine.execPopPsw s
  | .movDpImm imm d => Sys2Proof.Machine.execMovDpImm imm d s
  | .bcc rel => Sys2Proof.Machine.execBcc rel s
  | .tcall9 => Sys2Proof.Machine.execTcall9 s
  | .clr1B4 d => Sys2Proof.Machine.execClr1B4 d s
  | .bbcB4 d rel => Sys2Proof.Machine.execBbcB4 d rel s
  | .adcADpX d => Sys2Proof.Machine.execAdcADpX d s
  | .adcAAbsX a => Sys2Proof.Machine.execAdcAAbsX a s
  | .adcAAbsY a => Sys2Proof.Machine.execAdcAAbsY a s
  | .adcAIndY d => Sys2Proof.Machine.execAdcAIndY d s
  | .adcDpImm imm d => Sys2Proof.Machine.execAdcDpImm imm d s
  | .adcIxIy => Sys2Proof.Machine.execAdcIxIy s
  | .subwYADp d => Sys2Proof.Machine.execSubwYADp d s
  | .decDpX d => Sys2Proof.Machine.execDecDpX d s
  | .decA => Sys2Proof.Machine.execDecA s
  | .movXSp => Sys2Proof.Machine.execMovXSp s
  | .div => Sys2Proof.Machine.execDiv s
  | .xcn => Sys2Proof.Machine.execXcn s
  | .ei => Sys2Proof.Machine.execEi s
  | .tcall10 => Sys2Proof.Machine.execTcall10 s
  | .set1B5 d => Sys2Proof.Machine.execSet1B5 d s
  | .bbsB5 d rel => Sys2Proof.Machine.execBbsB5 d rel s
  | .sbcADp d => Sys2Proof.Machine.execSbcADp d s
  | .sbcAAbs a => Sys2Proof.Machine.execSbcAAbs a s
  | .sbcAIx => Sys2Proof.Machine.execSbcAIx s
  | .sbcAIndX d => Sys2Proof.Machine.execSbcAIndX d s
  | .sbcAImm imm => Sys2Proof.Machine.execSbcAImm imm s
  | .sbcDpDp ds dd => Sys2Proof.Machine.execSbcDpDp ds dd s
  | .mov1CMb m b => Sys2Proof.Machine.execMov1CMb m b s
  | .incDp d => Sys2Proof.Machine.execIncDp d s
  | .incAbs a => Sys2Proof.Machine.execIncAbs a s
  | .cmpYImm imm => Sys2Proof.Machine.execCmpYImm imm s
  | .popA => Sys2Proof.Machine.execPopA s
  | .movIxIncA => Sys2Proof.Machine.execMovIxIncA s
  | .bcs rel => Sys2Proof.Machine.execBcs rel s
  | .tcall11 => Sys2Proof.Machine.execTcall11 s
  | .clr1B5 d => Sys2Proof.Machine.execClr1B5 d s
  | .bbcB5 d rel => Sys2Proof.Machine.execBbcB5 d rel s
  | .sbcADpX d => Sys2Proof.Machine.execSbcADpX d s
  | .sbcAAbsX a => Sys2Proof.Machine.execSbcAAbsX a s
  | .sbcAAbsY a => Sys2Proof.Machine.execSbcAAbsY a s
  | .sbcAIndY d => Sys2Proof.Machine.execSbcAIndY d s
  | .sbcDpImm imm d => Sys2Proof.Machine.execSbcDpImm imm d s
  | .sbcIxIy => Sys2Proof.Machine.execSbcIxIy s
  | .movwYADp d => Sys2Proof.Machine.execMovwYADp d s
  | .incDpX d => Sys2Proof.Machine.execIncDpX d s
  | .incA => Sys2Proof.Machine.execIncA s
  | .movSpX => Sys2Proof.Machine.execMovSpX s
  | .das => Sys2Proof.Machine.execDas s
  | .movAIxInc => Sys2Proof.Machine.execMovAIxInc s
  | .di => Sys2Proof.Machine.execDi s
  | .tcall12 => Sys2Proof.Machine.execTcall12 s
  | .set1B6 d => Sys2Proof.Machine.execSet1B6 d s
  | .bbsB6 d rel => Sys2Proof.Machine.execBbsB6 d rel s
  | .movDpA d => Sys2Proof.Machine.execMovDpA d s
  | .movAbsA a => Sys2Proof.Machine.execMovAbsA a s
  | .movIxA => Sys2Proof.Machine.execMovIxA s
  | .movIndXA d => Sys2Proof.Machine.execMovIndXA d s
  | .cmpXImm imm => Sys2Proof.Machine.execCmpXImm imm s
  | .movAbsX a => Sys2Proof.Machine.execMovAbsX a s
  | .mov1MbC m b => Sys2Proof.Machine.execMov1MbC m b s
  | .movDpY d => Sys2Proof.Machine.execMovDpY d s
  | .movAbsY a => Sys2Proof.Machine.execMovAbsY a s
  | .movXImm imm => Sys2Proof.Machine.execMovXImm imm s
  | .popX => Sys2Proof.Machine.execPopX s
  | .mul => Sys2Proof.Machine.execMul s
  | .bne rel => Sys2Proof.Machine.execBne rel s
  | .tcall13 => Sys2Proof.Machine.execTcall13 s
  | .clr1B6 d => Sys2Proof.Machine.execClr1B6 d s
  | .bbcB6 d rel => Sys2Proof.Machine.execBbcB6 d rel s
  | .movDpXA d => Sys2Proof.Machine.execMovDpXA d s
  | .movAbsXA a => Sys2Proof.Machine.execMovAbsXA a s
  | .movAbsYA a => Sys2Proof.Machine.execMovAbsYA a s
  | .movIndYA d => Sys2Proof.Machine.execMovIndYA d s
  | .movDpX d => Sys2Proof.Machine.execMovDpX d s
  | .movDpYX d => Sys2Proof.Machine.execMovDpYX d s
  | .movwDpYA d => Sys2Proof.Machine.execMovwDpYA d s
  | .movDpXY d => Sys2Proof.Machine.execMovDpXY d s
  | .decY => Sys2Proof.Machine.execDecY s
  | .movAY => Sys2Proof.Machine.execMovAY s
  | .cbneDpX d rel => Sys2Proof.Machine.execCbneDpX d rel s
  | .daa => Sys2Proof.Machine.execDaa s
  | .clrv => Sys2Proof.Machine.execClrv s
  | .tcall14 => Sys2Proof.Machine.execTcall14 s
  | .set1B7 d => Sys2Proof.Machine.execSet1B7 d s
  | .bbsB7 d rel => Sys2Proof.Machine.execBbsB7 d rel s
  | .movADp d => Sys2Proof.Machine.execMovADp d s
  | .movAAbs a => Sys2Proof.Machine.execMovAAbs a s
  | .movAIx => Sys2Proof.Machine.execMovAIx s
  | .movAIndX d => Sys2Proof.Machine.execMovAIndX d s
  | .movAImm imm => Sys2Proof.Machine.execMovAImm imm s
  | .movXAbs a => Sys2Proof.Machine.execMovXAbs a s
  | .not1Mb m b => Sys2Proof.Machine.execNot1Mb m b s
  | .movYDp d => Sys2Proof.Machine.execMovYDp d s
  | .movYAbs a => Sys2Proof.Machine.execMovYAbs a s
  | .notc => Sys2Proof.Machine.execNotc s
  | .popY => Sys2Proof.Machine.execPopY s
  | .sleep => Sys2Proof.Machine.execSleep s
  | .beq rel => Sys2Proof.Machine.execBeq rel s
  | .tcall15 => Sys2Proof.Machine.execTcall15 s
  | .clr1B7 d => Sys2Proof.Machine.execClr1B7 d s
  | .bbcB7 d rel => Sys2Proof.Machine.execBbcB7 d rel s
  | .movADpX d => Sys2Proof.Machine.execMovADpX d s
  | .movAAbsX a => Sys2Proof.Machine.execMovAAbsX a s
  | .movAAbsY a => Sys2Proof.Machine.execMovAAbsY a s
  | .movAIndY d => Sys2Proof.Machine.execMovAIndY d s
  | .movXDp d => Sys2Proof.Machine.execMovXDp d s
  | .movXDpY d => Sys2Proof.Machine.execMovXDpY d s
  | .movDpDp ds dd => Sys2Proof.Machine.execMovDpDp ds dd s
  | .movYDpX d => Sys2Proof.Machine.execMovYDpX d s
  | .incY => Sys2Proof.Machine.execIncY s
  | .movYA => Sys2Proof.Machine.execMovYA s
  | .dbnzY rel => Sys2Proof.Machine.execDbnzY rel s
  | .stop => Sys2Proof.Machine.execStop s

end Sys2Proof.Machine
end

