-- ==== Sys2Proof/Machine/Fetch.lean ====
section
/-! DEFINITION. Fetching an instruction (R9, R122, R150), and placing one where the next step fetches it. -/

namespace Sys2Proof.Machine

open Sys2Proof

/-- The bytes at PC as fetches would return them, three being the longest instruction (R9, R35, R122; log entry 4). -/
def State.fetchBytes (s : State) : List Byte :=
  [s.peek s.cpu.pc, s.peek (s.cpu.pc + 1), s.peek (s.cpu.pc + 2)]

/-- The state in which an instruction's rule starts (R150): the opcode byte fetched, PC at byte 1, and the model's own two
fields cleared (log entry 1). -/
def State.fetched (s : State) : State := { s.passOperand with cycles := 0, frame := none }

/-- The address is one of the I/O registers'. -/
def isIo (a : Word) : Bool := (ioReg a).isSome

/-- The address lies in the IPL ROM window (R106). -/
def isRom (a : Word) : Bool := decide (0xFFC0 ≤ a.toNat)

/-- Three bytes at `a` would touch what `p` says. -/
def anyOfThree (p : Word → Bool) (a : Word) : Bool := p a || p (a + 1) || p (a + 2)

/-- An instruction's bytes stored in RAM at PC, with PC moved out of the I/O registers and the IPL ROM unmapped if the
bytes would otherwise be hidden (log entry 13). -/
def State.placeAtPc (s : State) (nbits w : Nat) : State :=
  let s := if anyOfThree isIo s.cpu.pc then s.setPc 0x0200 else s
  let s := if anyOfThree isRom s.cpu.pc then { s with io := { s.io with control := withBit s.io.control 7 false } } else s
  let s := s.setRam s.cpu.pc (byteAt (w % 2 ^ nbits) 0)
  let s := s.setRam (s.cpu.pc + 1) (byteAt (w % 2 ^ nbits) 1)
  s.setRam (s.cpu.pc + 2) (byteAt (w % 2 ^ nbits) 2)

end Sys2Proof.Machine
end

