-- ==== Sys2Proof/Machine/Step.lean ====
section
/-! DEFINITION. One step: `RunStep()` (49_orchestrator_host.md R601) where it may be called (R602). -/

namespace Sys2Proof.Machine

open Sys2Proof

/-- `RunStep()` where R602 allows it: the instruction at PC runs, then the clock effects of its cycles. In a faulted state,
or with a CPU that is not Running, no step is taken (R602, R640; log entry 3). -/
def step (s : State) : Host.Outcome State Fault Refusal :=
  match s.fault, s.cpu.run with
  | some r, _ => .fault (.emulationFault r)
  | none, .sleeping => .fault .notRunning
  | none, .stopped => .fault .notRunning
  | none, .running =>
    match decode s.fetchBytes with
    | .error _ => .fault .undecodable
    | .ok r =>
      match exec r.1 s.fetched with
      | .next t => .next (t.runClock t.cycles)
      | .fault f => .fault f
      | .refused f => .refused f

/-- The state with an instruction placed where the next step fetches it (log entry 13). -/
def State.withFetchWord (s : State) (nbits w : Nat) : State := s.placeAtPc nbits w

end Sys2Proof.Machine
end

