-- ==== Sys2Proof/Machine/HostOps.lean ====
section
/-! DEFINITION. The host's operations (49_orchestrator_host.md R603 to R622, 70_reset_and_hazards.md R700 to R708), which act
only between runs (R739). -/

namespace Sys2Proof.Machine

open Sys2Proof

/-- The state at construction (R630). -/
def State.constructed : State := { State.reset with lifecycle := .uninitialized, muteMask := 0x00 }

/-- `reset()` (R615, R700): everything but `mute_mask`. -/
def State.hostReset (s : State) : State := { State.reset with muteMask := s.muteMask }

/-- `soft_reset()` (R615, R705): RAM and the DSP registers but FLG are kept, T_OUT becomes 0. -/
def State.softReset (s : State) : State :=
  { s.hostReset with
    ram := s.ram
    io := { Io.reset with tOut := Vector.replicate 3 0x0 }
    dsp := { Dsp.reset with regs := (s.dsp.setReg 0x6C 0xE0).regs } }

/-- Why `load` refuses (R612, R641). -/
inductive FormatError
  | notRecognizedFormat
  | truncated
  deriving DecidableEq, Repr

/-- The 27 signature bytes (R612). -/
def signature : List Byte := "SNES-SPC700 Sound File Data".toList.map (fun c => BitVec.ofNat 8 c.toNat)

/-- The snapshot's size (R4, R613). -/
def snapshotSize : Nat := 0x10200

/-- The snapshot's RAM image (R613). -/
def ramImage (bytes : List Byte) : List Byte := (bytes.drop 0x100).take 0x10000

/-- The CPU after `load` (R708). -/
def loadedCpu (bytes : List Byte) : Cpu where
  a := bytes.getD 0x27 0
  x := bytes.getD 0x28 0
  y := bytes.getD 0x29 0
  sp := bytes.getD 0x2B 0
  pc := wordOf (bytes.getD 0x26 0) (bytes.getD 0x25 0)
  psw := bytes.getD 0x2A 0
  run := .running

/-- Byte a of the RAM image. -/
def imageByte (bytes : List Byte) (a : Nat) : Byte := bytes.getD (0x100 + a) 0

/-- The I/O registers after `load`, from the image's bytes under them (R708). -/
def loadedIo (bytes : List Byte) : Io where
  test := 0x0A
  control := imageByte bytes 0xF1
  dspAddr := imageByte bytes 0xF2
  cpuioIn := Vector.ofFn (fun k => imageByte bytes (0xF4 + k))
  cpuioOut := Vector.ofFn (fun k => imageByte bytes (0xF4 + k))
  tTarget := Vector.ofFn (fun k => imageByte bytes (0xFA + k))
  tDiv := Vector.replicate 3 0x00
  tOut := Vector.ofFn (fun k => (imageByte bytes (0xFD + k)).setWidth 4)

/-- The S-DSP after `load` (R708). -/
def loadedDsp (bytes : List Byte) : Dsp :=
  { Dsp.reset with
    regs := Vector.ofFn (fun r => bytes.getD (0x10100 + r) 0)
    konLatch := bytes.getD (0x10100 + 0x4C) 0 }

/-- `LoadedState(bytes)` (R708). -/
def State.loadedState (s : State) (bytes : List Byte) : State :=
  { s.hostReset with
    cpu := loadedCpu bytes
    ram := Memory.ofImage 0 (ramImage bytes)
    io := loadedIo bytes
    dsp := loadedDsp bytes }

/-- `load(bytes)` (R612): the signature first, then the size; on an error the state is what it was (R614). -/
def State.load (s : State) (bytes : List Byte) : Except FormatError State :=
  if bytes.length < 27 ∨ bytes.take 27 ≠ signature then .error .notRecognizedFormat
  else if bytes.length < snapshotSize then .error .truncated
  else .ok (s.loadedState bytes)

/-- How a run ends. -/
inductive PlayEnd
  | ok
  | err (r : EmuFault)
  /-- The step bound was reached, or a step stopped; neither happens (log entry 11). -/
  | stuck
  deriving DecidableEq, Repr

/-- A run: the state it leaves, the frames it emitted in order, and how it ended. -/
structure Run where
  state : State
  frames : List Frame
  result : PlayEnd
  deriving DecidableEq, Repr

/-- A run with the frame of an earlier step, if any, put before its own. -/
def Run.after (r : Run) (f : Option Frame) : Run := { r with frames := f.toList ++ r.frames }

/-- The loop of `play` (R603): steps until `need` frames are emitted or a fault is set; the first number bounds the steps. -/
def playLoop : Nat → Nat → State → Run
  | _, 0, s => { state := s, frames := [], result := .ok }
  | 0, _ + 1, s => { state := s, frames := [], result := .stuck }
  | fuel + 1, need + 1, s =>
    match step s with
    | .fault _ => { state := s, frames := [], result := .stuck }
    | .refused _ => { state := s, frames := [], result := .stuck }
    | .next t =>
      match t.fault with
      | some r => { state := t, frames := t.frame.toList, result := .err r }
      | none => (playLoop fuel (if t.frame.isSome then need else need + 1) t).after t.frame

/-- `play(sample_count, _)` (R603). Every instruction takes at least 2 cycles (R721), so 16 steps make a frame. -/
def State.play (s : State) (sampleCount : Nat) : Run :=
  match s.fault with
  | some r => { state := s, frames := [], result := .err r }
  | none => playLoop (16 * (sampleCount / 2)) (sampleCount / 2) { s with lifecycle := .running }

/-- `skip(sample_count)` (R604): the same with the frames dropped. -/
def State.skip (s : State) (sampleCount : Nat) : Run := { s.play sampleCount with frames := [] }

/-- `read_port(t, port)` (R620); the time is ignored. -/
def State.readPort (s : State) (port : Fin 4) : Byte := s.io.cpuioOut[port]

/-- `write_port(t, port, value)` (R621); the time is ignored. -/
def State.writePort (s : State) (port : Fin 4) (v : Byte) : State :=
  { s with io := { s.io with cpuioIn := s.io.cpuioIn.set port v } }

/-- `mute_voices(mask)` (R622). -/
def State.muteVoices (s : State) (mask : Byte) : State := { s with muteMask := mask }

end Sys2Proof.Machine
end

