-- ==== Sys2Proof/Safety.lean ====
section
/-! DEFINITION. What a run relies on: when a step may be taken, and the invariant of the states a run reaches. -/

namespace Sys2Proof.Machine

open Sys2Proof

/-- A step may be taken (R602). -/
def State.runnable (s : State) : Prop := s.fault = none ∧ s.cpu.run = .running

/-- The ranges of one voice's internal state (R73, R527, R530, R543). -/
structure Voice.Inv (x : Voice) : Prop where
  offset : x.brrOffset = 1 ∨ x.brrOffset = 3 ∨ x.brrOffset = 5 ∨ x.brrOffset = 7
  pos : x.bufPos = 0 ∨ x.bufPos = 4 ∨ x.bufPos = 8
  interp : x.interpPos ≤ 0x7FFF
  level : x.level ≤ 0x7FF
  delay : x.konDelay ≤ 5
  silent : x.mode = .off → x.level = 0
  even : x.out.getLsbD 0 = false

/-- The ranges of the S-DSP's internal state (R73 to R78, R542, R565). -/
structure Dsp.Inv (d : Dsp) : Prop where
  voice : ∀ v : Fin 8, (d.voice v).Inv
  rate : d.rateCounter < 30720
  noise : d.noise ≠ 0
  frame : d.echoOffset % 4 = 0
  unit : d.echoLength % 2048 = 0
  length : d.echoLength ≤ 30720
  inside : d.echoOffset = 0 ∨ d.echoOffset < d.echoLength

/-- The invariant of the machine: memory in canonical form, a CPU that is not Running only with a fault set (R602), TEST at
its one value (R42, R110), the S-DSP in its ranges. -/
structure State.Inv (s : State) : Prop where
  ram : s.ram.wf
  run : s.cpu.run ≠ .running → s.fault ≠ none
  test : s.io.test = 0x0A
  dsp : s.dsp.Inv

end Sys2Proof.Machine
end

