-- ==== Sys2Proof/Certificates/Slice0/Obligations.lean ====
section
/-! DEFINITION. The statements for the provers, with the vocabulary they share: what an operand form reads, what a store
changes, which flags an instruction writes, and the opcode, operand and cycle rows of each family as the spec lists them. -/

namespace Sys2Proof.Claims

open Sys2Proof Sys2Proof.Machine

/-- A source operand: an immediate byte or a memory operand. -/
inductive Src
  | imm (i : Byte)
  | mem (m : Mode)

/-- The operand's value in a state whose PC addresses byte 1. -/
def Src.value (o : Src) (s : State) : Byte :=
  match o with
  | .imm i => i
  | .mem m => m.value s

/-- The state after the operand bytes were fetched and the operand read. -/
def Src.after (o : Src) (s : State) : State :=
  match o with
  | .imm _ => s.passOperand
  | .mem m => m.readState s

/-- The number of operand bytes of a memory operand's form (R151 to R154). -/
def modeSize (m : Mode) : Word :=
  match m with
  | .ix => 0
  | .iy => 0
  | .dp _ => 1
  | .dpX _ => 1
  | .dpY _ => 1
  | .abs _ => 2
  | .absX _ => 2
  | .absY _ => 2
  | .indX _ => 1
  | .indY _ => 1

/-- The number of operand bytes of a source operand. -/
def Src.size (o : Src) : Word :=
  match o with
  | .imm _ => 1
  | .mem m => modeSize m

/-- A form of one family: the instruction, its bytes, its operand and its cycles. -/
structure Row where
  instr : Instr
  bytes : List Byte
  src : Src
  cycles : Nat

/-- A form with a memory destination only. -/
structure DestRow where
  instr : Instr
  bytes : List Byte
  dst : Mode
  cycles : Nat

/-- A form with a source operand, read first, and a memory operand. -/
structure PairRow where
  instr : Instr
  bytes : List Byte
  src : Src
  dst : Mode
  cycles : Nat

/-- The listed flags have the listed values and every other flag is as before. -/
def FlagsAre (fs : List (Flag × Bool)) (s t : State) : Prop :=
  (∀ p ∈ fs, t.flag p.1 = p.2) ∧ ∀ f, f ∉ fs.map Prod.fst → t.flag f = s.flag f

/-- N and Z of a byte. -/
def nz (v : Byte) : List (Flag × Bool) := [(.n, v.getLsbD 7), (.z, decide (v = 0))]

/-- N and Z of a word. -/
def nzW (w : Word) : List (Flag × Bool) := [(.n, w.getLsbD 15), (.z, decide (w = 0))]

/-- Nothing is stored: every byte of memory reads as before, and outside the CPU's registers only timer counters may
differ. -/
def Quiet (s t : State) : Prop :=
  (∀ a : Nat, t.ram.read a = s.ram.read a) ∧ t.io = { s.io with tOut := t.io.tOut } ∧ t.dsp = s.dsp ∧ t.fault = s.fault ∧
  t.clk = s.clk ∧ t.lifecycle = s.lifecycle ∧ t.muteMask = s.muteMask ∧ t.frame = s.frame ∧ t.cpu.run = s.cpu.run

/-- One byte `v` is stored at `a` by a bus write made in `u`: memory holds `v` there and every other byte reads as before;
outside 0x00F0 to 0x00FF nothing else changes, inside it the I/O register acts as the bus write says (R105). -/
def Stored (a : Word) (v : Byte) (u s t : State) : Prop :=
  t.ram.read a.toNat = v ∧ (∀ b : Nat, b ≠ a.toNat → t.ram.read b = s.ram.read b) ∧
  ((a.toNat < 0xF0 ∨ 0xFF < a.toNat) → t.io = u.io ∧ t.dsp = s.dsp ∧ t.fault = s.fault) ∧
  t.io = (u.memWrite a v).io ∧ t.dsp = (u.memWrite a v).dsp ∧ t.fault = (u.memWrite a v).fault ∧
  t.clk = s.clk ∧ t.lifecycle = s.lifecycle ∧ t.muteMask = s.muteMask ∧ t.frame = s.frame ∧ t.cpu.run = s.cpu.run

/-! The rows of the families, as opcode_table.json and the rules list them. -/

/-- The operand forms of the loads of A: opcode, operand, cycles (R201 to R209). -/
def loadARows (d : Byte) (a : Word) : List Row :=
  [⟨.movAImm d, [0xE8, d], .imm d, 2⟩, ⟨.movAIx, [0xE6], .mem .ix, 3⟩, ⟨.movADp d, [0xE4, d], .mem (.dp d), 3⟩,
   ⟨.movADpX d, [0xF4, d], .mem (.dpX d), 4⟩, ⟨.movAAbs a, [0xE5, loByte a, hiByte a], .mem (.abs a), 4⟩,
   ⟨.movAAbsX a, [0xF5, loByte a, hiByte a], .mem (.absX a), 5⟩,
   ⟨.movAAbsY a, [0xF6, loByte a, hiByte a], .mem (.absY a), 5⟩, ⟨.movAIndX d, [0xE7, d], .mem (.indX d), 6⟩,
   ⟨.movAIndY d, [0xF7, d], .mem (.indY d), 6⟩]

/-- The loads of X (R210 to R213). -/
def loadXRows (d : Byte) (a : Word) : List Row :=
  [⟨.movXImm d, [0xCD, d], .imm d, 2⟩, ⟨.movXDp d, [0xF8, d], .mem (.dp d), 3⟩,
   ⟨.movXDpY d, [0xF9, d], .mem (.dpY d), 4⟩, ⟨.movXAbs a, [0xE9, loByte a, hiByte a], .mem (.abs a), 4⟩]

/-- The loads of Y (R214 to R217). -/
def loadYRows (d : Byte) (a : Word) : List Row :=
  [⟨.movYImm d, [0x8D, d], .imm d, 2⟩, ⟨.movYDp d, [0xEB, d], .mem (.dp d), 3⟩,
   ⟨.movYDpX d, [0xFB, d], .mem (.dpX d), 4⟩, ⟨.movYAbs a, [0xEC, loByte a, hiByte a], .mem (.abs a), 4⟩]

/-- The stores of A (R219 to R226). -/
def storeARows (d : Byte) (a : Word) : List DestRow :=
  [⟨.movIxA, [0xC6], .ix, 4⟩, ⟨.movDpA d, [0xC4, d], .dp d, 4⟩, ⟨.movDpXA d, [0xD4, d], .dpX d, 5⟩,
   ⟨.movAbsA a, [0xC5, loByte a, hiByte a], .abs a, 5⟩, ⟨.movAbsXA a, [0xD5, loByte a, hiByte a], .absX a, 6⟩,
   ⟨.movAbsYA a, [0xD6, loByte a, hiByte a], .absY a, 6⟩, ⟨.movIndXA d, [0xC7, d], .indX d, 7⟩,
   ⟨.movIndYA d, [0xD7, d], .indY d, 7⟩]

/-- The stores of X (R227 to R229). -/
def storeXRows (d : Byte) (a : Word) : List DestRow :=
  [⟨.movDpX d, [0xD8, d], .dp d, 4⟩, ⟨.movDpYX d, [0xD9, d], .dpY d, 5⟩,
   ⟨.movAbsX a, [0xC9, loByte a, hiByte a], .abs a, 5⟩]

/-- The stores of Y (R230 to R232). -/
def storeYRows (d : Byte) (a : Word) : List DestRow :=
  [⟨.movDpY d, [0xCB, d], .dp d, 4⟩, ⟨.movDpXY d, [0xDB, d], .dpX d, 5⟩,
   ⟨.movAbsY a, [0xCC, loByte a, hiByte a], .abs a, 5⟩]

/-- The nine forms with destination A of an operation, by their constructors and the operation's opcode base (R242). -/
def accRows (base : Byte) (imm dp dpX indX indY : Byte → Instr) (ix : Instr) (abs absX absY : Word → Instr) (d : Byte)
    (a : Word) : List Row :=
  [⟨imm d, [base + 0x08, d], .imm d, 2⟩, ⟨ix, [base + 0x06], .mem .ix, 3⟩, ⟨dp d, [base + 0x04, d], .mem (.dp d), 3⟩,
   ⟨dpX d, [base + 0x14, d], .mem (.dpX d), 4⟩, ⟨abs a, [base + 0x05, loByte a, hiByte a], .mem (.abs a), 4⟩,
   ⟨absX a, [base + 0x15, loByte a, hiByte a], .mem (.absX a), 5⟩,
   ⟨absY a, [base + 0x16, loByte a, hiByte a], .mem (.absY a), 5⟩, ⟨indX d, [base + 0x07, d], .mem (.indX d), 6⟩,
   ⟨indY d, [base + 0x17, d], .mem (.indY d), 6⟩]

/-- The three forms with a memory first operand of an operation (R242). -/
def memRows (base : Byte) (ixIy : Instr) (dpDp dpImm : Byte → Byte → Instr) (d e : Byte) : List PairRow :=
  [⟨ixIy, [base + 0x19], .mem .iy, .ix, 5⟩, ⟨dpDp d e, [base + 0x09, d, e], .mem (.dp d), .dp e, 6⟩,
   ⟨dpImm d e, [base + 0x18, d, e], .imm d, .dp e, 5⟩]

def orARows := accRows 0x00 .orAImm .orADp .orADpX .orAIndX .orAIndY .orAIx .orAAbs .orAAbsX .orAAbsY
def andARows := accRows 0x20 .andAImm .andADp .andADpX .andAIndX .andAIndY .andAIx .andAAbs .andAAbsX .andAAbsY
def eorARows := accRows 0x40 .eorAImm .eorADp .eorADpX .eorAIndX .eorAIndY .eorAIx .eorAAbs .eorAAbsX .eorAAbsY
def cmpARows := accRows 0x60 .cmpAImm .cmpADp .cmpADpX .cmpAIndX .cmpAIndY .cmpAIx .cmpAAbs .cmpAAbsX .cmpAAbsY
def adcARows := accRows 0x80 .adcAImm .adcADp .adcADpX .adcAIndX .adcAIndY .adcAIx .adcAAbs .adcAAbsX .adcAAbsY
def sbcARows := accRows 0xA0 .sbcAImm .sbcADp .sbcADpX .sbcAIndX .sbcAIndY .sbcAIx .sbcAAbs .sbcAAbsX .sbcAAbsY
def orMemRows := memRows 0x00 .orIxIy .orDpDp .orDpImm
def andMemRows := memRows 0x20 .andIxIy .andDpDp .andDpImm
def eorMemRows := memRows 0x40 .eorIxIy .eorDpDp .eorDpImm
def cmpMemRows := memRows 0x60 .cmpIxIy .cmpDpDp .cmpDpImm
def adcMemRows := memRows 0x80 .adcIxIy .adcDpDp .adcDpImm
def sbcMemRows := memRows 0xA0 .sbcIxIy .sbcDpDp .sbcDpImm

/-- CMP with X (R319 to R321). -/
def cmpXRows (d : Byte) (a : Word) : List Row :=
  [⟨.cmpXImm d, [0xC8, d], .imm d, 2⟩, ⟨.cmpXDp d, [0x3E, d], .mem (.dp d), 3⟩,
   ⟨.cmpXAbs a, [0x1E, loByte a, hiByte a], .mem (.abs a), 4⟩]

/-- CMP with Y (R322 to R324). -/
def cmpYRows (d : Byte) (a : Word) : List Row :=
  [⟨.cmpYImm d, [0xAD, d], .imm d, 2⟩, ⟨.cmpYDp d, [0x7E, d], .mem (.dp d), 3⟩,
   ⟨.cmpYAbs a, [0x5E, loByte a, hiByte a], .mem (.abs a), 4⟩]

/-- The three memory forms of a shift, INC or DEC: `d`, `d+X`, `!a`. -/
def rmwRows (dpOp dpXOp absOp : Byte) (dp dpX : Byte → Instr) (abs : Word → Instr) (d : Byte) (a : Word) : List DestRow :=
  [⟨dp d, [dpOp, d], .dp d, 4⟩, ⟨dpX d, [dpXOp, d], .dpX d, 5⟩, ⟨abs a, [absOp, loByte a, hiByte a], .abs a, 5⟩]

def aslRows := rmwRows 0x0B 0x1B 0x0C .aslDp .aslDpX .aslAbs
def rolRows := rmwRows 0x2B 0x3B 0x2C .rolDp .rolDpX .rolAbs
def lsrRows := rmwRows 0x4B 0x5B 0x4C .lsrDp .lsrDpX .lsrAbs
def rorRows := rmwRows 0x6B 0x7B 0x6C .rorDp .rorDpX .rorAbs
def decRows := rmwRows 0x8B 0x9B 0x8C .decDp .decDpX .decAbs
def incRows := rmwRows 0xAB 0xBB 0xAC .incDp .incDpX .incAbs

/-! What the forms of a family do, once for the family. -/

/-- A load: register, N and Z; the register is put by `put`. -/
def LoadsTo (put : Cpu → Byte → Cpu) (r : Row) (s : State) : Prop :=
  decode r.bytes = .ok (r.instr, []) ∧ ∃ t, exec r.instr s = .next t ∧
    t.cpu = put { s.cpu with pc := s.cpu.pc + r.src.size, psw := t.cpu.psw } (r.src.value s) ∧
    FlagsAre (nz (r.src.value s)) s t ∧ Quiet s t ∧ t.io = (r.src.after s).io ∧ t.cycles = r.cycles

/-- A MOV of a register to memory: no flag and no register but PC changes. The destination is read first under
STORE_DUMMY_READ (R124). -/
def StoresFrom (get : Cpu → Byte) (r : DestRow) (s : State) : Prop :=
  decode r.bytes = .ok (r.instr, []) ∧ ∃ t, exec r.instr s = .next t ∧
    t.cpu = { s.cpu with pc := s.cpu.pc + modeSize r.dst } ∧
    Stored (r.dst.addr s) (get s.cpu) ((r.dst.located s).dummyRead (r.dst.addr s)) s t ∧ t.cycles = r.cycles

/-- An operation on A and an operand, result to A: `f` gives the result and `flags` the flags written, from the carry in, A
and the operand. -/
def Accumulates (f : Bool → Byte → Byte → Byte) (flags : Bool → Byte → Byte → List (Flag × Bool)) (r : Row) (s : State) :
    Prop :=
  decode r.bytes = .ok (r.instr, []) ∧ ∃ t, exec r.instr s = .next t ∧
    t.cpu = { s.cpu with
      a := f (s.flag .c) s.cpu.a (r.src.value s), pc := s.cpu.pc + r.src.size, psw := t.cpu.psw } ∧
    FlagsAre (flags (s.flag .c) s.cpu.a (r.src.value s)) s t ∧ Quiet s t ∧ t.io = (r.src.after s).io ∧
    t.cycles = r.cycles

/-- An operation on a memory operand and a source operand that is read first, result to memory. -/
def Combines (f : Bool → Byte → Byte → Byte) (flags : Bool → Byte → Byte → List (Flag × Bool)) (r : PairRow) (s : State) :
    Prop :=
  let u := r.src.after s
  let x := r.dst.value u
  let y := r.src.value s
  decode r.bytes = .ok (r.instr, []) ∧ ∃ t, exec r.instr s = .next t ∧
    t.cpu = { s.cpu with pc := s.cpu.pc + r.src.size + modeSize r.dst, psw := t.cpu.psw } ∧
    FlagsAre (flags (s.flag .c) x y) s t ∧
    Stored (r.dst.addr u) (f (s.flag .c) x y) (r.dst.readState u) s t ∧ t.cycles = r.cycles

/-- A compare of a register with an operand: flags only. -/
def Compares (get : Cpu → Byte) (flags : Byte → Byte → List (Flag × Bool)) (r : Row) (s : State) : Prop :=
  decode r.bytes = .ok (r.instr, []) ∧ ∃ t, exec r.instr s = .next t ∧
    t.cpu = { s.cpu with pc := s.cpu.pc + r.src.size, psw := t.cpu.psw } ∧
    FlagsAre (flags (get s.cpu) (r.src.value s)) s t ∧ Quiet s t ∧ t.io = (r.src.after s).io ∧ t.cycles = r.cycles

/-- A compare of a memory operand with a source operand that is read first: flags only. -/
def ComparesMem (flags : Byte → Byte → List (Flag × Bool)) (r : PairRow) (s : State) : Prop :=
  let u := r.src.after s
  decode r.bytes = .ok (r.instr, []) ∧ ∃ t, exec r.instr s = .next t ∧
    t.cpu = { s.cpu with pc := s.cpu.pc + r.src.size + modeSize r.dst, psw := t.cpu.psw } ∧
    FlagsAre (flags (r.dst.value u) (r.src.value s)) s t ∧ Quiet s t ∧ t.io = (r.dst.readState u).io ∧
    t.cycles = r.cycles

/-- A one-operand operation on a register of one byte: `f` gives the result and `flags` the flags written. -/
def Transforms (op : Byte) (i : Instr) (get : Cpu → Byte) (put : Cpu → Byte → Cpu) (f : Bool → Byte → Byte)
    (flags : Byte → Byte → List (Flag × Bool)) (n : Nat) (s : State) : Prop :=
  decode [op] = .ok (i, []) ∧ ∃ t, exec i s = .next t ∧
    t.cpu = put { s.cpu with psw := t.cpu.psw } (f (s.flag .c) (get s.cpu)) ∧
    FlagsAre (flags (get s.cpu) (f (s.flag .c) (get s.cpu))) s t ∧ Quiet s t ∧ t.io = s.io ∧ t.cycles = n

/-- The same on a memory byte: a real read, then a write at the same address. -/
def Rewrites (f : Bool → Byte → Byte) (flags : Byte → Byte → List (Flag × Bool)) (r : DestRow) (s : State) : Prop :=
  let v := r.dst.value s
  decode r.bytes = .ok (r.instr, []) ∧ ∃ t, exec r.instr s = .next t ∧
    t.cpu = { s.cpu with pc := s.cpu.pc + modeSize r.dst, psw := t.cpu.psw } ∧
    FlagsAre (flags v (f (s.flag .c) v)) s t ∧ Stored (r.dst.addr s) (f (s.flag .c) v) (r.dst.readState s) s t ∧
    t.cycles = r.cycles

/-! The operations of the rules, written from the rules. -/

/-- The sum of R279. -/
def adcSum (c : Bool) (a b : Byte) : Nat := a.toNat + b.toNat + c.toNat

/-- The result of R279. -/
def adcResult (c : Bool) (a b : Byte) : Byte := BitVec.ofNat 8 (adcSum c a b)

/-- The flags of R279. -/
def adcFlags (c : Bool) (a b : Byte) : List (Flag × Bool) :=
  let r := adcResult c a b
  [(.c, decide (adcSum c a b > 0xFF)), (.v, ((a ^^^ b ^^^ 0xFF#8) &&& (a ^^^ r)).getLsbD 7),
   (.h, (a ^^^ b ^^^ r).getLsbD 4), (.n, r.getLsbD 7), (.z, decide (r = 0))]

/-- The result of R280: `u8(a - b - (1 - C))`. -/
def sbcResult (c : Bool) (a b : Byte) : Byte := BitVec.ofInt 8 ((a.toNat : Int) - b.toNat - (1 - c.toNat))

/-- The flags of R280: C when no borrow occurred, V the signed overflow, H when there was no borrow out of bit 4, N and Z. -/
def sbcFlags (c : Bool) (a b : Byte) : List (Flag × Bool) :=
  let r := sbcResult c a b
  [(.c, decide ((a.toNat : Int) - b.toNat - (1 - c.toNat) ≥ 0)),
   (.v, decide (r.toInt ≠ a.toInt - b.toInt - (1 - c.toNat))),
   (.h, decide ((a.toNat % 16 : Int) - (b.toNat % 16 : Nat) - (1 - c.toNat) ≥ 0)), (.n, r.getLsbD 7), (.z, decide (r = 0))]

/-- The flags of R281. -/
def cmpFlags (a b : Byte) : List (Flag × Bool) := (.c, decide ((a.toNat : Int) - b.toNat ≥ 0)) :: nz (a - b)

/-- C from bit k of the operand, N and Z of the result: the flags of a shift or rotate. -/
def shiftFlags (k : Nat) (v r : Byte) : List (Flag × Bool) := (.c, v.getLsbD k) :: nz r

/-- ROL's result (R330). -/
def rolResult (c : Bool) (v : Byte) : Byte := (v <<< 1) ||| (if c then 0x01 else 0x00)

/-- ROR's result (R338). -/
def rorResult (c : Bool) (v : Byte) : Byte := (v >>> 1) ||| (if c then 0x80 else 0x00)

/-- The registers a CPU record update names. -/
def putA (c : Cpu) (v : Byte) : Cpu := { c with a := v }
def putX (c : Cpu) (v : Byte) : Cpu := { c with x := v }
def putY (c : Cpu) (v : Byte) : Cpu := { c with y := v }

end Sys2Proof.Claims

open Sys2Proof Sys2Proof.Machine Sys2Proof.Claims

/-! Encoding. -/

/-- R164, R156, R157, R159, R161: words written out from the encodings decode to the instructions they stand for. -/
def Obligations.DecodeWrittenWords : Prop :=
  decode [0b11100100, 0b01000000] = .ok (.movADp 0x40, []) ∧
  decode [0b00001001, 0b00010010, 0b00110100] = .ok (.orDpDp 0x12 0x34, []) ∧
  decode [0b10011000, 0b00000101, 0b01110111] = .ok (.adcDpImm 0x05 0x77, []) ∧
  decode [0b01001010, 0b00110100, 0b10110010] = .ok (.and1CMb 0x1234 5, []) ∧
  decode [0b11100011, 0b00010001, 0b11111110] = .ok (.bbsB7 0x11 0xFE, []) ∧
  decode [0b01011111, 0b11001101, 0b10101011] = .ok (.jmpAbs 0xABCD, []) ∧
  decode [0b11110001] = .ok (.tcall15, []) ∧
  decode [0b01001111, 0b10000000] = .ok (.pcall 0x80, []) ∧
  decode [0b10011110] = .ok (.div, []) ∧
  decode [0b11011010, 0b11111111] = .ok (.movwDpYA 0xFF, [])

/-- R163: every opcode byte is assigned; with its operand bytes there, decoding never fails. -/
def Obligations.EveryOpcodeDecodes : Prop :=
  ∀ (op b1 b2 : Byte) (rest : List Byte), ∃ (i : Instr) (k : Nat), 1 ≤ k ∧ k ≤ 3 ∧
    decode (op :: b1 :: b2 :: rest) = .ok (i, (op :: b1 :: b2 :: rest).drop k)

/-- Decoding an encoded well-formed instruction gives it back, whatever bytes follow. -/
def Obligations.DecodeOfEncode : Prop :=
  ∀ (i : Instr) (rest : List Byte), i.WellFormed → decode (encode i ++ rest) = .ok (i, rest)

/-- What decodes is well formed, and its encoding is the bytes decoded: every byte sequence has one meaning. -/
def Obligations.EncodeOfDecode : Prop :=
  ∀ (bytes rest : List Byte) (i : Instr), decode bytes = .ok (i, rest) → i.WellFormed ∧ encode i ++ rest = bytes

/-! The step. -/

/-- R150, R601: a step runs the instruction whose bytes are at PC, in the state with the opcode fetched (PC at byte 1), and
then the clock for the instruction's cycles; `cycles` and `frame` are the model's own fields (log entry 1). -/
def Obligations.StepRunsDecoded : Prop :=
  ∀ (s t : State) (i : Instr) (rest : List Byte), s.runnable →
    decode [s.peek s.cpu.pc, s.peek (s.cpu.pc + 1), s.peek (s.cpu.pc + 2)] = .ok (i, rest) →
    s.fetched.cpu = { s.cpu with pc := s.cpu.pc + 1 } ∧
    s.fetched = { s.touch s.cpu.pc with cpu := s.fetched.cpu, cycles := 0, frame := none } ∧
    (exec i s.fetched = .next t → step s = .next (t.runClock t.cycles))

/-- R602, R650, R163: wherever a step may be taken it gives a next state: no instruction can fail. A state with a fault
takes no step; that `step` answers the fault there is the model's choice (log entry 3). -/
def Obligations.StepOutcomes : Prop :=
  ∀ s : State, (s.runnable → ∃ t, step s = .next t) ∧
    ∀ r : EmuFault, s.fault = some r → step s = .fault (.emulationFault r)

/-- R601, R721: the clock advances by the instruction's cycles, 2 to 12 of them, and a frame is emitted exactly when a
multiple of 32 is passed. -/
def Obligations.ClockAndTicks : Prop :=
  ∀ s t : State, step s = .next t →
    t.clk = s.clk + t.cycles ∧ 2 ≤ t.cycles ∧ t.cycles ≤ 12 ∧
    (t.frame.isSome = true ↔ t.clk / 32 = s.clk / 32 + 1) ∧ t.clk / 32 ≤ s.clk / 32 + 1

/-! The bus. -/

/-- R105, R106, R110 to R121: what a bus read returns, and its side effect: reading T_OUT clears it, no other read changes
anything. -/
def Obligations.BusRead : Prop :=
  ∀ s : State,
    (∀ a : Word, (a.toNat < 0xF0 ∨ 0xFF < a.toNat) →
      (0xFFC0 ≤ a.toNat → s.io.control.getLsbD 7 = true →
        ∃ h : a.toNat - 0xFFC0 < Config.iplRom.length, s.peek a = Config.iplRom[a.toNat - 0xFFC0]) ∧
      ((a.toNat < 0xFFC0 ∨ s.io.control.getLsbD 7 = false) → s.peek a = s.ram.read a.toNat)) ∧
    (s.peek 0x00F0 = 0x00 ∧ s.peek 0x00F1 = 0x00 ∧ s.peek 0x00F2 = s.io.dspAddr) ∧
    s.peek 0x00F3 = s.dsp.regs[s.io.dspAddr.toNat % 128]'(Nat.mod_lt _ (by decide)) ∧
    (∀ k : Fin 4, s.peek (0x00F4 + BitVec.ofNat 16 k) = s.io.cpuioIn[k]) ∧
    (s.peek 0x00F8 = s.ram.read 0x00F8 ∧ s.peek 0x00F9 = s.ram.read 0x00F9) ∧
    (∀ k : Fin 3, s.peek (0x00FA + BitVec.ofNat 16 k) = 0x00) ∧
    (∀ k : Fin 3, (s.peek (0x00FD + BitVec.ofNat 16 k)).toNat = (s.io.tOut[k]).toNat ∧
      s.touch (0x00FD + BitVec.ofNat 16 k) = { s with io := { s.io with tOut := s.io.tOut.set k 0 } }) ∧
    ∀ a : Word, (∀ k : Fin 3, a ≠ 0x00FD + BitVec.ofNat 16 k) → s.touch a = s

/-- R105, R107, R108: a bus write stores the byte in RAM at its address, also under the I/O registers and the IPL ROM, and
changes no other byte; outside 0x00F0 to 0x00FF it changes nothing else. -/
def Obligations.BusWriteMemory : Prop :=
  ∀ (s : State) (a : Word) (v : Byte),
    (s.memWrite a v).ram.read a.toNat = v ∧
    (∀ b : Nat, b ≠ a.toNat → (s.memWrite a v).ram.read b = s.ram.read b) ∧
    (s.memWrite a v).cpu = s.cpu ∧
    ((a.toNat < 0xF0 ∨ 0xFF < a.toNat) → s.memWrite a v = { s with ram := (s.memWrite a v).ram })

/-- R10, R11, R104, R166: the address of every operand form, as numbers: direct-page sums modulo 256 in the page PSW.P
selects, absolute sums modulo 65536, pointers of two direct-page bytes, the stack in page 1; and the operand's value is
what the bus read at that address returns. -/
def Obligations.OperandAddresses : Prop :=
  ∀ (s : State) (d : Byte) (a : Word),
    let page := if s.flag .p = true then 256 else 0
    let x := s.cpu.x.toNat
    let y := s.cpu.y.toNat
    let byteAt (o : Nat) : Word := BitVec.ofNat 16 (page + o % 256)
    let p := s.passOperand
    let pointer (o : Nat) : Nat := ((p.touch (byteAt o)).peek (byteAt (o + 1))).toNat * 256 + (p.peek (byteAt o)).toNat
    (∀ r ∈ ([(.ix, page + x), (.iy, page + y), (.dp d, page + d.toNat), (.dpX d, page + (d.toNat + x) % 256),
        (.dpY d, page + (d.toNat + y) % 256), (.abs a, a.toNat), (.absX a, (a.toNat + x) % 65536),
        (.absY a, (a.toNat + y) % 65536), (.indX d, pointer (d.toNat + x)), (.indY d, (pointer d.toNat + y) % 65536)] :
        List (Mode × Nat)),
      (r.1.addr s).toNat = r.2 ∧ r.1.value s = (r.1.located s).peek (r.1.addr s) ∧
        r.1.readState s = (r.1.located s).touch (r.1.addr s)) ∧
    (stackAddr s.cpu.sp).toNat = 256 + s.cpu.sp.toNat

/-- R111: the CONTROL write: the byte to RAM, port clears, timer restarts on a 0-to-1 edge of an enable bit, the byte stored
whole; a read of CONTROL returns 0x00 with no side effect. -/
def Obligations.ControlWrite : Prop :=
  ∀ (s : State) (v : Byte),
    let t := s.memWrite 0x00F1 v
    s.peek 0x00F1 = 0x00 ∧ s.touch 0x00F1 = s ∧
    t.io.control = v ∧ t.ram.read 0x00F1 = v ∧ (∀ b : Nat, b ≠ 0x00F1 → t.ram.read b = s.ram.read b) ∧
    (∀ k : Fin 4, t.io.cpuioIn[k] =
      if (k.val < 2 ∧ v.getLsbD 4 = true) ∨ (2 ≤ k.val ∧ v.getLsbD 5 = true) then 0x00 else s.io.cpuioIn[k]) ∧
    (∀ k : Fin 3, let edge := v.getLsbD k = true ∧ s.io.control.getLsbD k = false
      t.io.tDiv[k] = (if edge then 0x00 else s.io.tDiv[k]) ∧ t.io.tOut[k] = (if edge then 0 else s.io.tOut[k])) ∧
    t = { s with
      ram := t.ram
      io := { s.io with control := v, cpuioIn := t.io.cpuioIn, tDiv := t.io.tDiv, tOut := t.io.tOut } }

/-- R110, R112, R114, R72, R116, R117, R118, R120: the other I/O register writes; each changes RAM and what it names. -/
def Obligations.IoWrites : Prop :=
  ∀ (s : State) (v : Byte),
    s.memWrite 0x00F0 v = (if v = 0x0A then { s.setRam 0x00F0 v with io := { s.io with test := 0x0A } }
      else { s.setRam 0x00F0 v with fault := some .testWrite }) ∧
    s.memWrite 0x00F2 v = { s.setRam 0x00F2 v with io := { s.io with dspAddr := v } } ∧
    (0x80 ≤ s.io.dspAddr.toNat → s.memWrite 0x00F3 v = s.setRam 0x00F3 v) ∧
    (∀ h : s.io.dspAddr.toNat < 128, s.memWrite 0x00F3 v = { s.setRam 0x00F3 v with
      dsp := { s.dsp with
        regs := s.dsp.regs.set s.io.dspAddr.toNat (if s.io.dspAddr = 0x7C then 0x00 else v)
        konLatch := if s.io.dspAddr = 0x4C then v else s.dsp.konLatch } }) ∧
    (∀ k : Fin 4, s.memWrite (0x00F4 + BitVec.ofNat 16 k) v =
      { s.setRam (0x00F4 + BitVec.ofNat 16 k) v with io := { s.io with cpuioOut := s.io.cpuioOut.set k v } }) ∧
    s.memWrite 0x00F8 v = s.setRam 0x00F8 v ∧ s.memWrite 0x00F9 v = s.setRam 0x00F9 v ∧
    (∀ k : Fin 3, s.memWrite (0x00FA + BitVec.ofNat 16 k) v =
      { s.setRam (0x00FA + BitVec.ofNat 16 k) v with io := { s.io with tTarget := s.io.tTarget.set k v } }) ∧
    ∀ k : Fin 3, s.memWrite (0x00FD + BitVec.ofNat 16 k) v = s.setRam (0x00FD + BitVec.ofNat 16 k) v

/-! The MOV family. -/

/-- R200 to R217: MOV to A, X and Y from an immediate byte or from memory. -/
def Obligations.Loads : Prop :=
  ∀ (d : Byte) (a : Word) (s : State),
    (∀ r ∈ loadARows d a, LoadsTo putA r s) ∧ (∀ r ∈ loadXRows d a, LoadsTo putX r s) ∧
    ∀ r ∈ loadYRows d a, LoadsTo putY r s

/-- R219 to R232: MOV of A, X and Y to memory. -/
def Obligations.Stores : Prop :=
  ∀ (d : Byte) (a : Word) (s : State),
    (∀ r ∈ storeARows d a, StoresFrom Cpu.a r s) ∧ (∀ r ∈ storeXRows d a, StoresFrom Cpu.x r s) ∧
    ∀ r ∈ storeYRows d a, StoresFrom Cpu.y r s

/-- R218, R233, R240, R241: the autoincrement forms (X incremented modulo 256 after the access at the old X, no dummy read),
MOV between direct-page bytes (the source read before the destination, no dummy read) and MOV of an immediate byte to
memory. -/
def Obligations.MovSpecialForms : Prop :=
  ∀ (s : State) (x y : Byte),
    (decode [0xBF] = .ok (.movAIxInc, []) ∧ ∃ t, exec .movAIxInc s = .next t ∧
      t.cpu = { s.cpu with a := s.peek (s.dpAddr s.cpu.x), x := s.cpu.x + 1, psw := t.cpu.psw } ∧
      FlagsAre (nz (s.peek (s.dpAddr s.cpu.x))) s t ∧ Quiet s t ∧ t.io = (s.touch (s.dpAddr s.cpu.x)).io ∧
      t.cycles = 4) ∧
    (decode [0xAF] = .ok (.movIxIncA, []) ∧ ∃ t, exec .movIxIncA s = .next t ∧
      t.cpu = { s.cpu with x := s.cpu.x + 1 } ∧ Stored (s.dpAddr s.cpu.x) s.cpu.a s s t ∧ t.cycles = 4) ∧
    (decode [0xFA, x, y] = .ok (.movDpDp x y, []) ∧ ∃ t, exec (.movDpDp x y) s = .next t ∧
      t.cpu = { s.cpu with pc := s.cpu.pc + 2 } ∧
      Stored (s.dpAddr y) ((Mode.dp x).value s) ((Mode.dp x).readState s).passOperand s t ∧ t.cycles = 5) ∧
    decode [0x8F, x, y] = .ok (.movDpImm x y, []) ∧ ∃ t, exec (.movDpImm x y) s = .next t ∧
      t.cpu = { s.cpu with pc := s.cpu.pc + 2 } ∧
      Stored (s.dpAddr y) x (s.passOperand.passOperand.dummyRead (s.dpAddr y)) s t ∧ t.cycles = 5

/-- R234 to R239: MOV between registers; N and Z but for `MOV SP,X`. -/
def Obligations.MovRegisters : Prop :=
  ∀ s : State,
    (∀ r ∈ ([(0x7D, .movAX, { s.cpu with a := s.cpu.x }, s.cpu.x), (0xDD, .movAY, { s.cpu with a := s.cpu.y }, s.cpu.y),
        (0x5D, .movXA, { s.cpu with x := s.cpu.a }, s.cpu.a), (0xFD, .movYA, { s.cpu with y := s.cpu.a }, s.cpu.a),
        (0x9D, .movXSp, { s.cpu with x := s.cpu.sp }, s.cpu.sp)] : List (Byte × Instr × Cpu × Byte)),
      decode [r.1] = .ok (r.2.1, []) ∧ ∃ t, exec r.2.1 s = .next t ∧ t.cpu = { r.2.2.1 with psw := t.cpu.psw } ∧
        FlagsAre (nz r.2.2.2) s t ∧ Quiet s t ∧ t.io = s.io ∧ t.cycles = 2) ∧
    decode [0xBD] = .ok (.movSpX, []) ∧ ∃ t, exec .movSpX s = .next t ∧
      t.cpu = { s.cpu with sp := s.cpu.x } ∧ Quiet s t ∧ t.io = s.io ∧ t.cycles = 2

/-! Logic. -/

/-- R242: OR, AND and EOR in their twelve operand forms, opcode base plus form code, N and Z and no other flag. -/
def Obligations.Logic : Prop :=
  ∀ (d e : Byte) (a : Word) (s : State),
    (∀ r ∈ orARows d a, Accumulates (fun _ x y => x ||| y) (fun _ x y => nz (x ||| y)) r s) ∧
    (∀ r ∈ andARows d a, Accumulates (fun _ x y => x &&& y) (fun _ x y => nz (x &&& y)) r s) ∧
    (∀ r ∈ eorARows d a, Accumulates (fun _ x y => x ^^^ y) (fun _ x y => nz (x ^^^ y)) r s) ∧
    (∀ r ∈ orMemRows d e, Combines (fun _ x y => x ||| y) (fun _ x y => nz (x ||| y)) r s) ∧
    (∀ r ∈ andMemRows d e, Combines (fun _ x y => x &&& y) (fun _ x y => nz (x &&& y)) r s) ∧
    ∀ r ∈ eorMemRows d e, Combines (fun _ x y => x ^^^ y) (fun _ x y => nz (x ^^^ y)) r s

/-! Arithmetic. -/

/-- R281, R283 to R294, R319 to R324: CMP of A, of memory, of X and of Y: C, N and Z, nothing stored. -/
def Obligations.Compare : Prop :=
  ∀ (d e : Byte) (a : Word) (s : State),
    (∀ r ∈ cmpARows d a, Compares Cpu.a cmpFlags r s) ∧ (∀ r ∈ cmpMemRows d e, ComparesMem cmpFlags r s) ∧
    (∀ r ∈ cmpXRows d a, Compares Cpu.x cmpFlags r s) ∧ ∀ r ∈ cmpYRows d a, Compares Cpu.y cmpFlags r s

/-- R279, R280, R295 to R318: ADC and SBC in their twelve forms each; SBC's result and flags in the words of R280. -/
def Obligations.AdcSbc : Prop :=
  ∀ (d e : Byte) (a : Word) (s : State),
    (∀ r ∈ adcARows d a, Accumulates adcResult adcFlags r s) ∧ (∀ r ∈ sbcARows d a, Accumulates sbcResult sbcFlags r s) ∧
    (∀ r ∈ adcMemRows d e, Combines adcResult adcFlags r s) ∧ ∀ r ∈ sbcMemRows d e, Combines sbcResult sbcFlags r s

/-- R279's reading of its flags: C is the unsigned overflow, V the two's-complement signed overflow, H the carry out of bit
3 of the same addition. -/
def Obligations.AdcOverflow : Prop :=
  ∀ psw a b : Byte,
    let c := getFlag psw .c
    let r := (adc8 psw a b).1
    let p := (adc8 psw a b).2
    (getFlag p .c = true ↔ r.toNat ≠ a.toNat + b.toNat + c.toNat) ∧
    (getFlag p .v = true ↔ r.toInt ≠ a.toInt + b.toInt + c.toNat) ∧
    (getFlag p .h = true ↔ 16 ≤ a.toNat % 16 + b.toNat % 16 + c.toNat)

/-! Shifts, increments. -/

/-- R325 to R341: ASL, ROL, LSR and ROR. -/
def Obligations.Shifts : Prop :=
  ∀ (d : Byte) (a : Word) (s : State),
    Transforms 0x1C .aslA Cpu.a putA (fun _ v => v <<< 1) (shiftFlags 7) 2 s ∧
    (∀ r ∈ aslRows d a, Rewrites (fun _ v => v <<< 1) (shiftFlags 7) r s) ∧
    Transforms 0x3C .rolA Cpu.a putA rolResult (shiftFlags 7) 2 s ∧
    (∀ r ∈ rolRows d a, Rewrites rolResult (shiftFlags 7) r s) ∧
    Transforms 0x5C .lsrA Cpu.a putA (fun _ v => v >>> 1) (shiftFlags 0) 2 s ∧
    (∀ r ∈ lsrRows d a, Rewrites (fun _ v => v >>> 1) (shiftFlags 0) r s) ∧
    Transforms 0x7C .rorA Cpu.a putA rorResult (shiftFlags 0) 2 s ∧
    ∀ r ∈ rorRows d a, Rewrites rorResult (shiftFlags 0) r s

/-- R342 to R353: DEC and INC, modulo 256; C, V and H are not written. -/
def Obligations.DecInc : Prop :=
  ∀ (d : Byte) (a : Word) (s : State),
    Transforms 0x9C .decA Cpu.a putA (fun _ v => v - 1) (fun _ r => nz r) 2 s ∧
    Transforms 0x1D .decX Cpu.x putX (fun _ v => v - 1) (fun _ r => nz r) 2 s ∧
    Transforms 0xDC .decY Cpu.y putY (fun _ v => v - 1) (fun _ r => nz r) 2 s ∧
    (∀ r ∈ decRows d a, Rewrites (fun _ v => v - 1) (fun _ r => nz r) r s) ∧
    Transforms 0xBC .incA Cpu.a putA (fun _ v => v + 1) (fun _ r => nz r) 2 s ∧
    Transforms 0x3D .incX Cpu.x putX (fun _ v => v + 1) (fun _ r => nz r) 2 s ∧
    Transforms 0xFC .incY Cpu.y putY (fun _ v => v + 1) (fun _ r => nz r) 2 s ∧
    ∀ r ∈ incRows d a, Rewrites (fun _ v => v + 1) (fun _ r => nz r) r s

/-! Words, multiplication, division, decimal. -/

/-- R356, R360 to R362: MOVW to YA, ADDW, SUBW, CMPW. -/
def Obligations.WordToYA : Prop :=
  ∀ (d : Byte) (s : State),
    let w := s.passOperand.dpWord d
    let ya := s.ya
    let sum := BitVec.ofNat 16 (ya.toNat + w.toNat)
    let goes (op : Byte) (i : Instr) (result : Word) (flags : List (Flag × Bool)) (n : Nat) : Prop :=
      decode [op, d] = .ok (i, []) ∧ ∃ t, exec i s = .next t ∧
        t.cpu = { s.cpu with a := loByte result, y := hiByte result, pc := s.cpu.pc + 1, psw := t.cpu.psw } ∧
        FlagsAre flags s t ∧ Quiet s t ∧ t.io = (s.passOperand.touchDpWord d).io ∧ t.cycles = n
    goes 0xBA (.movwYADp d) w (nzW w) 5 ∧
    goes 0x7A (.addwYADp d) sum
      ([(.c, decide (ya.toNat + w.toNat > 0xFFFF)), (.v, ((ya ^^^ w ^^^ 0xFFFF#16) &&& (ya ^^^ sum)).getLsbD 15),
        (.h, (ya ^^^ w ^^^ sum).getLsbD 12)] ++ nzW sum) 5 ∧
    goes 0x9A (.subwYADp d) (ya - w)
      ([(.c, decide (ya.toNat ≥ w.toNat)), (.v, ((ya ^^^ w) &&& (ya ^^^ (ya - w))).getLsbD 15),
        (.h, !(ya ^^^ w ^^^ (ya - w)).getLsbD 12)] ++ nzW (ya - w)) 5 ∧
    goes 0x5A (.cmpwYADp d) ya ([(.c, decide (ya.toNat ≥ w.toNat))] ++ nzW (ya - w)) 4

/-- R357, R358, R359: MOVW to memory (a dummy read of the low byte only), INCW and DECW (the low byte written before the
high byte is read). -/
def Obligations.WordToMemory : Prop :=
  ∀ (d : Byte) (s : State),
    let p := s.passOperand
    let lo := s.dpAddr d
    let hi := s.dpAddr (d + 1)
    let stores (v w : Byte) (u u' t : State) : Prop :=
      t.ram.read lo.toNat = v ∧ t.ram.read hi.toNat = w ∧
      (∀ b : Nat, b ≠ lo.toNat → b ≠ hi.toNat → t.ram.read b = s.ram.read b) ∧
      u' = u.memWrite lo v ∧ t.clk = s.clk ∧ t.cpu.run = s.cpu.run
    (decode [0xDA, d] = .ok (.movwDpYA d, []) ∧ ∃ u t, exec (.movwDpYA d) s = .next t ∧
      t.cpu = { s.cpu with pc := s.cpu.pc + 1 } ∧ stores s.cpu.a s.cpu.y (p.dummyRead lo) u t ∧
      t = { u.memWrite hi s.cpu.y with cycles := 5 }) ∧
    ∀ r ∈ ([(0x3A, .incwDp d, fun v => v + 1, fun w => w + 1), (0x1A, .decwDp d, fun v => v - 1, fun w => w - 1)] :
        List (Byte × Instr × (Byte → Byte) × (Word → Word))),
      decode [r.1, d] = .ok (r.2.1, []) ∧ ∃ u t, exec r.2.1 s = .next t ∧
        let result := r.2.2.2 (wordOf (u.peek hi) (p.peek lo))
        loByte result = r.2.2.1 (p.peek lo) ∧
        t.cpu = { s.cpu with pc := s.cpu.pc + 1, psw := t.cpu.psw } ∧ FlagsAre (nzW result) s t ∧
        stores (r.2.2.1 (p.peek lo)) (hiByte result) (p.touch lo) u t ∧
        t = { (u.touch hi).memWrite hi (hiByte result) with cpu := t.cpu, cycles := 6 }

/-- R363, R364: MUL: YA is the product, N and Z come from Y. DIV on every operand, and its corners: an exact quotient and
remainder when Y < X, nine quotient bits with V as the ninth when X <= Y < 2X, and X = 0. -/
def Obligations.MulDiv : Prop :=
  ∀ s : State, (decode [0xCF] = .ok (.mul, []) ∧ ∃ t, exec .mul s = .next t ∧
    t.ya.toNat = s.cpu.y.toNat * s.cpu.a.toNat ∧ t.cpu = { s.cpu with a := t.cpu.a, y := t.cpu.y, psw := t.cpu.psw } ∧
    FlagsAre (nz t.cpu.y) s t ∧ Quiet s t ∧ t.io = s.io ∧ t.cycles = 9) ∧
    decode [0x9E] = .ok (.div, []) ∧ ∃ t, exec .div s = .next t ∧
    let x := s.cpu.x.toNat
    let y := s.cpu.y.toNat
    let ya := y * 256 + s.cpu.a.toNat
    (y < 2 * x → t.cpu.a.toNat = ya / x % 256 ∧ t.cpu.y.toNat = ya % x) ∧
    (2 * x ≤ y → (t.cpu.a.toNat : Int) = 255 - ((ya - x * 512 : Nat) / (256 - x) : Nat) ∧
      t.cpu.y.toNat = x + (ya - x * 512) % (256 - x)) ∧
    (y < x → t.cpu.a.toNat * x + t.cpu.y.toNat = ya ∧ t.cpu.y.toNat < x) ∧
    (x ≤ y → y < 2 * x → (256 + t.cpu.a.toNat) * x + t.cpu.y.toNat = ya) ∧
    (x = 0 → t.cpu.a.toNat = 255 - y ∧ t.cpu.y = s.cpu.a) ∧
    t.cpu = { s.cpu with a := t.cpu.a, y := t.cpu.y, psw := t.cpu.psw } ∧
    FlagsAre ([(.v, decide (y ≥ x)), (.h, decide (y % 16 ≥ x % 16))] ++ nz t.cpu.a) s t ∧ Quiet s t ∧ t.io = s.io ∧
    t.cycles = 12

/-- R354, R365, R366: XCN, DAA and DAS. -/
def Obligations.DecimalAndXcn : Prop :=
  ∀ s : State,
    let a := s.cpu.a
    let acts (op : Byte) (i : Instr) (result : Byte) (flags : List (Flag × Bool)) (n : Nat) : Prop :=
      decode [op] = .ok (i, []) ∧ ∃ t, exec i s = .next t ∧ t.cpu = { s.cpu with a := result, psw := t.cpu.psw } ∧
        FlagsAre flags s t ∧ Quiet s t ∧ t.io = s.io ∧ t.cycles = n
    let up := s.flag .c || decide (a.toNat > 0x99)
    let t := if up then a + 0x60 else a
    let r := if s.flag .h || decide (t.toNat % 16 > 9) then t + 0x06 else t
    let down := !s.flag .c || decide (a.toNat > 0x99)
    let t' := if down then a - 0x60 else a
    let r' := if !s.flag .h || decide (t'.toNat % 16 > 9) then t' - 0x06 else t'
    let swapped := BitVec.ofNat 8 (a.toNat % 16 * 16 + a.toNat / 16)
    acts 0xDF .daa r ((.c, up) :: nz r) 3 ∧ acts 0xBE .das r' ((.c, !down) :: nz r') 3 ∧
    acts 0x9F .xcn swapped (nz swapped) 5

/-- DAA after ADC adds packed decimal numbers: the digits and the carry of the decimal sum (from R279 and R365). -/
def Obligations.DecimalAddition : Prop :=
  ∀ (m n : Fin 100) (psw : Byte),
    let bcd (k : Nat) : Byte := BitVec.ofNat 8 (k / 10 * 16 + k % 10)
    let sum := adc8 psw (bcd m) (bcd n)
    let out := daa8 sum.2 sum.1
    let total := m.val + n.val + (getFlag psw .c).toNat
    out.1 = bcd (total % 100) ∧ (getFlag out.2 .c = true ↔ 100 ≤ total)

/-! Bits and flags. -/

/-- R368, R369, R370, R371, R378, R379: the instructions that rewrite a byte of memory bit by bit. -/
def Obligations.BitRewrites : Prop :=
  ∀ (d : Byte) (a : Word) (s : State),
    (∀ r ∈ ([(0, .set1B0 d, .clr1B0 d), (1, .set1B1 d, .clr1B1 d), (2, .set1B2 d, .clr1B2 d), (3, .set1B3 d, .clr1B3 d),
        (4, .set1B4 d, .clr1B4 d), (5, .set1B5 d, .clr1B5 d), (6, .set1B6 d, .clr1B6 d), (7, .set1B7 d, .clr1B7 d)] :
        List (Nat × Instr × Instr)),
      Rewrites (fun _ v => v ||| (1#8 <<< r.1)) (fun _ _ => []) ⟨r.2.1, [BitVec.ofNat 8 (r.1 * 32 + 0x02), d], .dp d, 4⟩ s ∧
      Rewrites (fun _ v => v &&& (0xFF#8 ^^^ (1#8 <<< r.1))) (fun _ _ => [])
        ⟨r.2.2, [BitVec.ofNat 8 (r.1 * 32 + 0x12), d], .dp d, 4⟩ s) ∧
    Rewrites (fun _ v => v ||| s.cpu.a) (fun v _ => nz (s.cpu.a - v)) ⟨.tset1Abs a, [0x0E, loByte a, hiByte a], .abs a, 6⟩ s ∧
    Rewrites (fun _ v => v &&& (s.cpu.a ^^^ 0xFF#8)) (fun v _ => nz (s.cpu.a - v))
      ⟨.tclr1Abs a, [0x4E, loByte a, hiByte a], .abs a, 6⟩ s ∧
    let m := BitVec.ofNat 16 (a.toNat % 0x2000)
    let b := a.toNat / 0x2000
    Rewrites (fun c v => (v &&& (0xFF#8 ^^^ (1#8 <<< b))) ||| (if c then 1#8 <<< b else 0)) (fun _ _ => [])
      ⟨.mov1MbC m b, [0xCA, loByte a, hiByte a], .abs m, 6⟩ s ∧
    Rewrites (fun _ v => v ^^^ (1#8 <<< b)) (fun _ _ => []) ⟨.not1Mb m b, [0xEA, loByte a, hiByte a], .abs m, 5⟩ s

/-- R372 to R377: C from C and a bit of memory; the operand word holds a 13-bit address and a 3-bit bit number (R159). -/
def Obligations.CarryBits : Prop :=
  ∀ (w : Word) (s : State),
    let m := BitVec.ofNat 16 (w.toNat % 0x2000)
    let b := w.toNat / 0x2000
    let c := s.flag .c
    let x := ((Mode.abs m).value s).getLsbD b
    ∀ r ∈ ([(0x0A, .or1CMb m b, c || x, 5), (0x2A, .or1CNotMb m b, c || !x, 5), (0x4A, .and1CMb m b, c && x, 4),
        (0x6A, .and1CNotMb m b, c && !x, 4), (0x8A, .eor1CMb m b, c != x, 5), (0xAA, .mov1CMb m b, x, 4)] :
        List (Byte × Instr × Bool × Nat)),
      decode [r.1, loByte w, hiByte w] = .ok (r.2.1, []) ∧ ∃ t, exec r.2.1 s = .next t ∧
        t.cpu = { s.cpu with pc := s.cpu.pc + 2, psw := t.cpu.psw } ∧ FlagsAre [(.c, r.2.2.1)] s t ∧ Quiet s t ∧
        t.io = ((Mode.abs m).readState s).io ∧ t.cycles = r.2.2.2

/-- R380 to R387, R420: the flag instructions and NOP. -/
def Obligations.FlagInstructions : Prop :=
  ∀ s : State,
    ∀ r ∈ ([(0x60, .clrc, [(.c, false)], 2), (0x80, .setc, [(.c, true)], 2), (0xED, .notc, [(.c, !s.flag .c)], 3),
        (0xE0, .clrv, [(.v, false), (.h, false)], 2), (0x20, .clrp, [(.p, false)], 2), (0x40, .setp, [(.p, true)], 2),
        (0xA0, .ei, [(.i, true)], 3), (0xC0, .di, [(.i, false)], 3), (0x00, .nop, [], 2)] :
        List (Byte × Instr × List (Flag × Bool) × Nat)),
      decode [r.1] = .ok (r.2.1, []) ∧ ∃ t, exec r.2.1 s = .next t ∧ t.cpu = { s.cpu with psw := t.cpu.psw } ∧
        FlagsAre r.2.2.1 s t ∧ Quiet s t ∧ t.io = s.io ∧ t.cycles = r.2.2.2

/-! Control transfers. -/

/-- R13, R389 to R397: BRA and the branches on a flag: taken to the next instruction's address plus the signed
displacement, with two cycles more. -/
def Obligations.FlagBranches : Prop :=
  ∀ (rel : Byte) (s : State),
    ∀ r ∈ ([(0x2F, .bra rel, true, 4), (0xF0, .beq rel, s.flag .z, 2), (0xD0, .bne rel, !s.flag .z, 2),
        (0xB0, .bcs rel, s.flag .c, 2), (0x90, .bcc rel, !s.flag .c, 2), (0x70, .bvs rel, s.flag .v, 2),
        (0x50, .bvc rel, !s.flag .v, 2), (0x30, .bmi rel, s.flag .n, 2), (0x10, .bpl rel, !s.flag .n, 2)] :
        List (Byte × Instr × Bool × Nat)),
      decode [r.1, rel] = .ok (r.2.1, []) ∧ ∃ t, exec r.2.1 s = .next t ∧
        t.cpu = { s.cpu with
          pc := if r.2.2.1 then BitVec.ofInt 16 ((s.cpu.pc.toNat : Int) + 1 + rel.toInt) else s.cpu.pc + 1 } ∧
        Quiet s t ∧ t.io = s.passOperand.io ∧ t.cycles = if r.2.2.1 then 4 else r.2.2.2

/-- R398 to R401: the branches on a memory byte: the byte is read, then the displacement is fetched, then the test. -/
def Obligations.MemoryBranches : Prop :=
  ∀ (d rel : Byte) (s : State),
    let v := (Mode.dp d).value s
    let vx := (Mode.dpX d).value s
    ∀ r ∈ ([(0x03, .bbsB0 d rel, .dp d, v.getLsbD 0, 5), (0x23, .bbsB1 d rel, .dp d, v.getLsbD 1, 5),
        (0x43, .bbsB2 d rel, .dp d, v.getLsbD 2, 5), (0x63, .bbsB3 d rel, .dp d, v.getLsbD 3, 5),
        (0x83, .bbsB4 d rel, .dp d, v.getLsbD 4, 5), (0xA3, .bbsB5 d rel, .dp d, v.getLsbD 5, 5),
        (0xC3, .bbsB6 d rel, .dp d, v.getLsbD 6, 5), (0xE3, .bbsB7 d rel, .dp d, v.getLsbD 7, 5),
        (0x13, .bbcB0 d rel, .dp d, !v.getLsbD 0, 5), (0x33, .bbcB1 d rel, .dp d, !v.getLsbD 1, 5),
        (0x53, .bbcB2 d rel, .dp d, !v.getLsbD 2, 5), (0x73, .bbcB3 d rel, .dp d, !v.getLsbD 3, 5),
        (0x93, .bbcB4 d rel, .dp d, !v.getLsbD 4, 5), (0xB3, .bbcB5 d rel, .dp d, !v.getLsbD 5, 5),
        (0xD3, .bbcB6 d rel, .dp d, !v.getLsbD 6, 5), (0xF3, .bbcB7 d rel, .dp d, !v.getLsbD 7, 5),
        (0x2E, .cbneDp d rel, .dp d, decide (s.cpu.a ≠ v), 5),
        (0xDE, .cbneDpX d rel, .dpX d, decide (s.cpu.a ≠ vx), 6)] : List (Byte × Instr × Mode × Bool × Nat)),
      decode [r.1, d, rel] = .ok (r.2.1, []) ∧ ∃ t, exec r.2.1 s = .next t ∧
        t.cpu = { s.cpu with
          pc := if r.2.2.2.1 then BitVec.ofInt 16 ((s.cpu.pc.toNat : Int) + 2 + rel.toInt) else s.cpu.pc + 2 } ∧
        Quiet s t ∧ t.io = (r.2.2.1.readState s).passOperand.io ∧
        t.cycles = if r.2.2.2.1 then r.2.2.2.2 + 2 else r.2.2.2.2

/-- R402, R403: DBNZ. The direct-page form stores the decremented byte before it fetches its displacement: the
displacement is the byte decoded unless that store changed what the fetch returns (log entry 4); no flag is written. -/
def Obligations.Dbnz : Prop :=
  ∀ (d rel : Byte) (s : State),
    (decode [0xFE, rel] = .ok (.dbnzY rel, []) ∧ ∃ t, exec (.dbnzY rel) s = .next t ∧
      t.cpu = { s.cpu with
        y := s.cpu.y - 1
        pc := if s.cpu.y ≠ 1 then BitVec.ofInt 16 ((s.cpu.pc.toNat : Int) + 1 + rel.toInt) else s.cpu.pc + 1 } ∧
      Quiet s t ∧ t.io = s.passOperand.io ∧ t.cycles = if s.cpu.y ≠ 1 then 6 else 4) ∧
    decode [0x6E, d, rel] = .ok (.dbnzDp d rel, []) ∧ ∃ t, exec (.dbnzDp d rel) s = .next t ∧
      let v := (Mode.dp d).value s - 1
      let u := ((Mode.dp d).readState s).memWrite (s.dpAddr d) v
      let used := if u.peek (s.cpu.pc + 1) = s.peek (s.cpu.pc + 1) then rel else u.peek (s.cpu.pc + 1)
      t.cpu = { s.cpu with
        pc := if v ≠ 0 then BitVec.ofInt 16 ((s.cpu.pc.toNat : Int) + 2 + used.toInt) else s.cpu.pc + 2 } ∧
      t.ram.read (s.dpAddr d).toNat = v ∧ (∀ b : Nat, b ≠ (s.dpAddr d).toNat → t.ram.read b = s.ram.read b) ∧
      t = { u.passOperand with cpu := t.cpu, cycles := if v ≠ 0 then 7 else 5 }

/-- R404 to R408: jumps and calls. A call stores the address of the next instruction, high byte first, at the stack
pointer and below it; TCALL n reads its vector at 0xFFDE - 2n. -/
def Obligations.JumpsAndCalls : Prop :=
  ∀ (a : Word) (u : Byte) (s : State),
    let p := s.passOperand.passOperand
    (decode [0x5F, loByte a, hiByte a] = .ok (.jmpAbs a, []) ∧ ∃ t, exec (.jmpAbs a) s = .next t ∧
      t.cpu = { s.cpu with pc := a } ∧ Quiet s t ∧ t.io = p.io ∧ t.cycles = 3) ∧
    (decode [0x1F, loByte a, hiByte a] = .ok (.jmpIndAbsX a, []) ∧ ∃ t, exec (.jmpIndAbsX a) s = .next t ∧
      t.cpu = { s.cpu with pc := p.word (a + zext16 s.cpu.x) } ∧ Quiet s t ∧
      t.io = (p.touchWord (a + zext16 s.cpu.x)).io ∧ t.cycles = 6) ∧
    ∀ r ∈ ([(some [0x3F, loByte a, hiByte a], .callAbs a, p, a, 8),
        (some [0x4F, u], .pcall u, s.passOperand, wordOf 0xFF u, 6)] ++
        ([.tcall0, .tcall1, .tcall2, .tcall3, .tcall4, .tcall5, .tcall6, .tcall7, .tcall8, .tcall9, .tcall10, .tcall11,
          .tcall12, .tcall13, .tcall14, .tcall15].mapIdx fun n i =>
            (some [BitVec.ofNat 8 (n * 16 + 1)], i, s, s.word (BitVec.ofNat 16 (0xFFDE - 2 * n)), 8)) :
        List (Option (List Byte) × Instr × State × Word × Nat)),
      (∀ bytes, r.1 = some bytes → decode bytes = .ok (r.2.1, [])) ∧ ∃ t, exec r.2.1 s = .next t ∧
        t.cpu = { s.cpu with sp := s.cpu.sp - 2, pc := r.2.2.2.1 } ∧
        t.ram.read (stackAddr s.cpu.sp).toNat = hiByte r.2.2.1.cpu.pc ∧
        t.ram.read (stackAddr (s.cpu.sp - 1)).toNat = loByte r.2.2.1.cpu.pc ∧
        (∀ b : Nat, b ≠ (stackAddr s.cpu.sp).toNat → b ≠ (stackAddr (s.cpu.sp - 1)).toNat → t.ram.read b = s.ram.read b) ∧
        t = { r.2.2.1 with cpu := t.cpu, ram := t.ram, cycles := r.2.2.2.2 }

/-- R409, R410, R411: BRK, RET and RETI. -/
def Obligations.BreakAndReturns : Prop :=
  ∀ s : State,
    (decode [0x0F] = .ok (.brk, []) ∧ ∃ t, exec .brk s = .next t ∧
      t.cpu = { s.cpu with sp := s.cpu.sp - 3, pc := s.word 0xFFDE, psw := t.cpu.psw } ∧
      FlagsAre [(.b, true), (.i, false)] s t ∧
      t.ram.read (stackAddr s.cpu.sp).toNat = hiByte s.cpu.pc ∧
      t.ram.read (stackAddr (s.cpu.sp - 1)).toNat = loByte s.cpu.pc ∧
      t.ram.read (stackAddr (s.cpu.sp - 2)).toNat = s.cpu.psw ∧
      (∀ b : Nat, b ≠ (stackAddr s.cpu.sp).toNat → b ≠ (stackAddr (s.cpu.sp - 1)).toNat →
        b ≠ (stackAddr (s.cpu.sp - 2)).toNat → t.ram.read b = s.ram.read b) ∧
      t = { s with cpu := t.cpu, ram := t.ram, cycles := 8 }) ∧
    (decode [0x6F] = .ok (.ret, []) ∧ exec .ret s = .next { s with
      cpu := { s.cpu with
        sp := s.cpu.sp + 2
        pc := wordOf (s.ram.read (stackAddr (s.cpu.sp + 2)).toNat) (s.ram.read (stackAddr (s.cpu.sp + 1)).toNat) }
      cycles := 5 }) ∧
    decode [0x7F] = .ok (.reti, []) ∧ exec .reti s = .next { s with
      cpu := { s.cpu with
        sp := s.cpu.sp + 3
        psw := s.ram.read (stackAddr (s.cpu.sp + 1)).toNat
        pc := wordOf (s.ram.read (stackAddr (s.cpu.sp + 3)).toNat) (s.ram.read (stackAddr (s.cpu.sp + 2)).toNat) }
      cycles := 6 }

/-- A call followed by RET comes back to the address of the next instruction with SP as before; BRK followed by RETI comes
back with PSW as it was too (from R406 to R411 and R11). -/
def Obligations.ReturnsUndoCalls : Prop :=
  ∀ s t : State,
    (exec .brk s = .next t → exec .reti t = .next { t with cpu := s.cpu, cycles := 6 }) ∧
    (∀ a : Word, exec (.callAbs a) s = .next t →
      exec .ret t = .next { t with cpu := { s.cpu with pc := s.cpu.pc + 2 }, cycles := 5 }) ∧
    (∀ u : Byte, exec (.pcall u) s = .next t →
      exec .ret t = .next { t with cpu := { s.cpu with pc := s.cpu.pc + 1 }, cycles := 5 }) ∧
    ∀ i ∈ ([.tcall0, .tcall1, .tcall2, .tcall3, .tcall4, .tcall5, .tcall6, .tcall7, .tcall8, .tcall9, .tcall10, .tcall11,
        .tcall12, .tcall13, .tcall14, .tcall15] : List Instr),
      exec i s = .next t → exec .ret t = .next { t with cpu := s.cpu, cycles := 5 }

/-- R412 to R419: PUSH and POP: no flag but by POP PSW. -/
def Obligations.PushPop : Prop :=
  ∀ s : State,
    (∀ r ∈ ([(0x2D, .pushA, s.cpu.a), (0x4D, .pushX, s.cpu.x), (0x6D, .pushY, s.cpu.y), (0x0D, .pushPsw, s.cpu.psw)] :
        List (Byte × Instr × Byte)),
      decode [r.1] = .ok (r.2.1, []) ∧ ∃ t, exec r.2.1 s = .next t ∧
        t.ram.read (stackAddr s.cpu.sp).toNat = r.2.2 ∧
        (∀ b : Nat, b ≠ (stackAddr s.cpu.sp).toNat → t.ram.read b = s.ram.read b) ∧
        t = { s with cpu := { s.cpu with sp := s.cpu.sp - 1 }, ram := t.ram, cycles := 4 }) ∧
    let v := s.ram.read (stackAddr (s.cpu.sp + 1)).toNat
    ∀ r ∈ ([(0xAE, .popA, { s.cpu with a := v }), (0xCE, .popX, { s.cpu with x := v }), (0xEE, .popY, { s.cpu with y := v }),
        (0x8E, .popPsw, { s.cpu with psw := v })] : List (Byte × Instr × Cpu)),
      decode [r.1] = .ok (r.2.1, []) ∧
        exec r.2.1 s = .next { s with cpu := { r.2.2 with sp := s.cpu.sp + 1 }, cycles := 4 }

/-- SLEEP and STOP halt the CPU, set the fault and change nothing else (R421, R422, R655). From then on no step is taken;
that `step` answers the fault in such a state is the model's choice (log entry 3). -/
def Obligations.SleepStop : Prop :=
  ∀ s : State,
    (decode [0xEF] = .ok (.sleep, []) ∧ exec .sleep s =
      .next { s with cpu := { s.cpu with run := .sleeping }, fault := some .sleeping, cycles := 3 }) ∧
    (decode [0xFF] = .ok (.stop, []) ∧ exec .stop s =
      .next { s with cpu := { s.cpu with run := .stopped }, fault := some .stopped, cycles := 3 }) ∧
    ∀ (i : Instr) (t : State), (i = .sleep ∨ i = .stop) → exec i s = .next t → ∃ r, step t = .fault (.emulationFault r)

/-! Rules of the whole machine. -/

/-- R17, R601, R652: no instruction touches the clock, the host's fields, a voice or another internal of the DSP than the
key-on latch, a timer target's divider except by a CONTROL write, or what the last step emitted. -/
def Obligations.InstructionsFrame : Prop :=
  ∀ (i : Instr) (s t : State), exec i s = .next t →
    t.clk = s.clk ∧ t.lifecycle = s.lifecycle ∧ t.muteMask = s.muteMask ∧ t.frame = s.frame ∧
    t.dsp = { s.dsp with regs := t.dsp.regs, konLatch := t.dsp.konLatch } ∧
    (∀ k : Fin 3, t.io.tDiv[k] = s.io.tDiv[k] ∨ t.io.tDiv[k] = 0)

/-- Only the listed instructions write P, B, I, V, H (R37: SETP, CLRP, EI, DI, BRK, ADC, SBC, ADDW, SUBW, DIV, CLRV, POP
PSW, RETI). -/
def Obligations.FlagWriters : Prop :=
  ∀ (i : Instr) (s t : State), exec i s = .next t →
    (t.flag .p = s.flag .p ∨ i ∈ ([.setp, .clrp, .popPsw, .reti] : List Instr)) ∧
    (t.flag .b = s.flag .b ∨ i ∈ ([.brk, .popPsw, .reti] : List Instr)) ∧
    (t.flag .i = s.flag .i ∨ i ∈ ([.ei, .di, .brk, .popPsw, .reti] : List Instr)) ∧
    ((t.flag .v = s.flag .v ∧ t.flag .h = s.flag .h) ∨ i ∈ ([.div, .clrv, .popPsw, .reti] : List Instr) ∨
      (∃ d, i = .addwYADp d ∨ i = .subwYADp d) ∨
      (∃ d a, ∃ r ∈ adcARows d a ++ sbcARows d a, i = r.instr) ∨ ∃ d e, ∃ r ∈ adcMemRows d e ++ sbcMemRows d e, i = r.instr)

/-- R640: EmulationFault has exactly three causes, SLEEP, STOP and a write of a value other than 0x0A to TEST; and cpu_run
changes by SLEEP and STOP only (R39). -/
def Obligations.FaultCauses : Prop :=
  ∀ (i : Instr) (s t : State), exec i s = .next t →
    (t.fault = s.fault ∨ (i = .sleep ∧ t.fault = some .sleeping) ∨ (i = .stop ∧ t.fault = some .stopped) ∨
      (t.fault = some .testWrite ∧ t.ram.read 0x00F0 ≠ 0x0A)) ∧
    (t.cpu.run = s.cpu.run ∨ (i = .sleep ∧ t.cpu.run = .sleeping) ∨ (i = .stop ∧ t.cpu.run = .stopped)) ∧
    (s.io.test = 0x0A → t.io.test = 0x0A)

/-- The invariant of Safety.lean holds right after reset (R700). -/
def Obligations.ResetKeepsInvariant : Prop := State.reset.Inv

/-- Every step keeps the invariant: memory in canonical form, a halted CPU only with a fault, TEST at its one value, and
every part of the DSP in the range the spec gives it (R73 to R78, R527, R542, R565). -/
def Obligations.StepKeepsInvariant : Prop :=
  ∀ s t : State, s.Inv → step s = .next t → t.Inv

/-- The host's operations keep the invariant (R612 to R622). -/
def Obligations.HostKeepsInvariant : Prop :=
  ∀ (s t : State) (bytes : List Byte) (k : Fin 4) (v : Byte), s.Inv →
    s.hostReset.Inv ∧ s.softReset.Inv ∧ (s.load bytes = .ok t → t.Inv) ∧ (s.writePort k v).Inv ∧ (s.muteVoices v).Inv

/-! Timers and DSP. -/

/-- R661, R662, R663: one cycle of the timers: stage 1 on multiples of 128 and 16, the divider counting to the target. -/
def Obligations.TimerCycle : Prop :=
  ∀ (s : State) (k : Fin 3),
    let fires := s.clk % (if k = 2 then 16 else 128) = 0 ∧ s.io.control.getLsbD k = true
    let hit := s.io.tDiv[k] + 1 = s.io.tTarget[k]
    let t := s.timerCycle
    t.io.tDiv[k] = (if fires then (if hit then 0 else s.io.tDiv[k] + 1) else s.io.tDiv[k]) ∧
    t.io.tOut[k] = (if fires ∧ hit then s.io.tOut[k] + 1 else s.io.tOut[k]) ∧
    t = { s with io := { s.io with tDiv := t.io.tDiv, tOut := t.io.tOut } }

/-- R663: with target n (0 meaning 256) and the divider at 0, T_OUT increments once every n stage-1 ticks, modulo 16. -/
def Obligations.TimerPeriod : Prop :=
  ∀ (s : State) (k : Fin 3) (j : Nat), s.io.control.getLsbD k = true → s.io.tDiv[k] = 0 →
    let n := if s.io.tTarget[k] = 0 then 256 else (s.io.tTarget[k]).toNat
    let t := (fun s : State => s.timerStage2 k)^[j] s
    t.io.tOut[k] = s.io.tOut[k] + BitVec.ofNat 4 (j / n) ∧ (t.io.tDiv[k]).toNat = j % n

/-- R520, R521: the rate counter runs through 30720 values and every rate fires once in each of its periods, whatever the
counter's value: after a period the rate fires exactly when it fired before it. -/
def Obligations.RatePeriods : Prop :=
  ∀ (c : Fin 30720) (r : Fin 32),
    nextRate^[30720] c.val = c.val ∧ rateEvent c.val 0 = false ∧
    (r ≠ 0 → ∀ h : r.val < rateTable.length,
      rateEvent (nextRate^[(rateTable[r.val]).1] c.val) r = rateEvent c.val r ∧
      ∃! j, j < (rateTable[r.val]).1 ∧ rateEvent (nextRate^[j] c.val) r = true)

/-- R527, R522: the envelope level never leaves 0 to 0x7FF under any sequence of register values and counter values; and one
envelope step changes the mode in the ways of the table only: Attack to Decay, Decay to Sustain (both under ADSR), Release
to Off at level 0; Off and Sustain are left by none. -/
def Obligations.Envelope : Prop :=
  (∀ (x : Voice) (inputs : List (Nat × Byte × Byte × Byte)), x.level ≤ 0x7FF →
    (inputs.foldl (fun y i => y.envStep i.1 i.2.1 i.2.2.1 i.2.2.2) x).level ≤ 0x7FF) ∧
  ∀ (x : Voice) (counter : Nat) (adsr1 adsr2 gain : Byte),
    let y := x.envStep counter adsr1 adsr2 gain
    y = { x with mode := y.mode, level := y.level } ∧
    (y.mode = x.mode ∨
      (x.mode = .attack ∧ y.mode = .decay ∧ adsr1.getLsbD 7 = true ∧ 0x7E0 ≤ y.level) ∨
      (x.mode = .decay ∧ y.mode = .sustain ∧ adsr1.getLsbD 7 = true ∧ y.level / 256 = adsr2.toNat / 32) ∨
      (x.mode = .release ∧ y.mode = .off ∧ y.level = 0))

/-- R542: the noise register shifts right, its new bit 14 the XOR of old bits 0 and 1; 0 is not reached from another
value. -/
def Obligations.NoiseStep : Prop :=
  ∀ n : BitVec 15,
    (noiseStep n).getLsbD 14 = (n.getLsbD 0 != n.getLsbD 1) ∧
    (∀ k < 14, (noiseStep n).getLsbD k = n.getLsbD (k + 1)) ∧ (n ≠ 0 → noiseStep n ≠ 0)

/-- R506, R507: filter 0 gives the nibble times a power of two exactly for shifts 0 to 12, and -4096 or 0 for shifts 13 to
15; the other filters' results have bit 0 clear. -/
def Obligations.BrrFilters : Prop :=
  (∀ (shift : Fin 13) (n : Fin 16) (p1 p2 : Int),
    (brrFilter 0 (brrScale shift (sext4 n)) p1 p2).toInt = (if n.val < 8 then (n.val : Int) else n.val - 16) * 2 ^ shift.val) ∧
  (∀ (shift : Nat) (n : Fin 16), 13 ≤ shift → brrScale shift (sext4 n) = if n.val < 8 then 0 else -4096) ∧
  ∀ (filter : Nat) (full p1 p2 : Int), filter ≠ 0 → (brrFilter filter full p1 p2).getLsbD 0 = false

/-- R510, R511: on a polling tick a key-off bit puts a voice that is not Off into Release, a key-on bit starts the key-on
sequence in Attack and clears the voice's ENDX bit, and key-on wins; on another tick nothing happens. -/
def Obligations.KeyPolling : Prop :=
  ∀ (d : Dsp) (v : Fin 8),
    let t := d.pollVoice v
    let x := d.voice v
    t.voice v = (if d.everyOther = false then x
      else if d.konNow.getLsbD v = true then { x with konDelay := 5, mode := .attack }
      else if d.koffNow.getLsbD v = true ∧ x.mode ≠ .off then { x with mode := .release } else x) ∧
    (∀ w : Fin 8, w ≠ v → t.voice w = d.voice w) ∧
    (∀ r : BitVec 7, r ≠ 0x7C → t.reg r = d.reg r) ∧
    (∀ k : Fin 8, t.endx.getLsbD k =
      (if k = v ∧ d.everyOther = true ∧ d.konNow.getLsbD v = true then false else d.endx.getLsbD k))

/-- R561, R622: `mute_mask` never disturbs the DSP: whatever the mask, a tick leaves the same registers, voices and other
DSP state; and so does any number of ticks while FLG bit 5 is 1, which keeps the echo unit from writing RAM. With echo writes
on it need not: a muted voice's share is missing from the echo buffer. -/
def Obligations.MuteDoesNotDisturb : Prop :=
  ∀ (s : State) (mask : Byte),
    (s.muteVoices mask).dspTick.dsp = s.dspTick.dsp ∧
    ∀ j : Nat, s.dsp.flg.getLsbD 5 = true →
      (State.dspTick^[j] (s.muteVoices mask)).dsp = (State.dspTick^[j] s).dsp ∧
      (State.dspTick^[j] (s.muteVoices mask)).ram = s.ram ∧ (State.dspTick^[j] s).ram = s.ram

/-- R543, R530, R561: a voice at level 0 outside the key-on sequence has output 0 and adds nothing to the mix or the echo,
whatever its samples and the interpolator; so does a muted voice. -/
def Obligations.SilentVoice : Prop :=
  ∀ (ram : Memory) (mute : Byte) (d : Dsp) (m : Mix) (v : Fin 8),
    let t := voiceTick ram mute (d, m) v
    ((d.voice v).level = 0 ∨ mute.getLsbD v = true →
      t.2.mainL = m.mainL ∧ t.2.mainR = m.mainR ∧ t.2.echoL = m.echoL ∧ t.2.echoR = m.echoR) ∧
    ((d.voice v).level = 0 → t.2.prevOut = 0 ∧ t.1.reg (voiceReg v 8) = 0 ∧ t.1.reg (voiceReg v 9) = 0)

/-- R564, R571, R125: a tick changes RAM at the four bytes of the current echo frame only, and not at all while FLG bit 5
is 1; with FLG bit 6 set its frame is silent (R574). The frame's bytes wrap modulo 65536 one by one (log entry 10). -/
def Obligations.TickRam : Prop :=
  ∀ s : State,
    (s.dsp.flg.getLsbD 5 = true → s.dspTick.ram = s.ram) ∧
    (∀ a : Nat, (∀ k < 4, a ≠ (s.dsp.esa.toNat * 256 + s.dsp.echoOffset + k) % 65536) →
      s.dspTick.ram.read a = s.ram.read a) ∧
    (s.dsp.flg.getLsbD 6 = true → s.dspTick.frame = some ⟨0, 0⟩) ∧
    s.dspTick.cpu = s.cpu ∧ s.dspTick.io = s.io ∧ s.dspTick.clk = s.clk ∧ s.dspTick.fault = s.fault

/-- R565: the echo position: the length is latched from EDL when the position is 0, and for EDL = n the position cycles
through 0, 4, ..., 2048n - 4 (or stays 0 for n = 0). -/
def Obligations.EchoPosition : Prop :=
  ∀ (d : Dsp) (j : Nat), d.echoOffset = 0 →
    let n := d.edl.toNat % 16
    (Dsp.advanceEcho^[j] d).echoOffset = if n = 0 then 0 else 4 * j % (2048 * n)

/-! The host's operations. -/

/-- R700, R701, R83: the machine after `reset`: the values the spec gives; `mute_mask` is kept. R705: `soft_reset` is the same
but for RAM, the DSP registers other than FLG, and T_OUT. -/
def Obligations.Resets : Prop :=
  ∀ s : State,
    (let t := s.hostReset
    (t.cpu.a = 0x00 ∧ t.cpu.x = 0x00 ∧ t.cpu.y = 0x00 ∧ t.cpu.sp = 0x00 ∧ t.cpu.psw = 0x00 ∧ t.cpu.pc = 0xFFC0 ∧
      t.cpu.run = .running) ∧
    (∀ a : Nat, t.ram.read a = 0x00) ∧
    (t.io.test = 0x0A ∧ t.io.control = 0xB0 ∧ t.io.dspAddr = 0x00) ∧
    (∀ k : Fin 4, t.io.cpuioIn[k] = 0x00 ∧ t.io.cpuioOut[k] = 0x00) ∧
    (∀ k : Fin 3, t.io.tTarget[k] = 0x00 ∧ t.io.tDiv[k] = 0x00 ∧ t.io.tOut[k] = 0xF) ∧
    t.clk = 0 ∧ (∀ r : BitVec 7, t.dsp.reg r = if r = 0x6C then 0xE0 else 0x00) ∧
    (∀ v : Fin 8, t.dsp.voice v = Voice.mk 0 1 (Vector.replicate 12 0) 0 0 .off 0 0 0) ∧
    (t.dsp.everyOther = true ∧ t.dsp.konLatch = 0 ∧ t.dsp.konNow = 0 ∧ t.dsp.koffNow = 0 ∧ t.dsp.rateCounter = 0 ∧
      t.dsp.noise = 0x4000 ∧ t.dsp.echoOffset = 0 ∧ t.dsp.echoLength = 0) ∧
    (∀ k : Fin 8, t.dsp.firHist[k] = ⟨0, 0⟩) ∧ t.fault = none ∧ t.lifecycle = .loaded ∧ t.muteMask = s.muteMask) ∧
    let t := s.softReset
    t.ram = s.ram ∧ (∀ r : BitVec 7, t.dsp.reg r = if r = 0x6C then 0xE0 else s.dsp.reg r) ∧
    (∀ k : Fin 3, t.io.tOut[k] = 0) ∧
    t = { s.hostReset with
      ram := s.ram, io := { s.hostReset.io with tOut := t.io.tOut }, dsp := { s.hostReset.dsp with regs := t.dsp.regs } }

/-- R612, R613, R708: `load`: the signature test first, then the size; a refused load gives no state; an accepted one gives
the state of R708. -/
def Obligations.Load : Prop :=
  ∀ (s : State) (bytes : List Byte),
    let byte (k : Nat) : Byte := bytes.getD k 0
    let good := 27 ≤ bytes.length ∧ bytes.take 27 =
      [0x53, 0x4E, 0x45, 0x53, 0x2D, 0x53, 0x50, 0x43, 0x37, 0x30, 0x30, 0x20, 0x53, 0x6F, 0x75, 0x6E, 0x64, 0x20, 0x46,
       0x69, 0x6C, 0x65, 0x20, 0x44, 0x61, 0x74, 0x61]
    (¬ good → s.load bytes = .error .notRecognizedFormat) ∧
    (good → bytes.length < 0x10200 → s.load bytes = .error .truncated) ∧
    (good → 0x10200 ≤ bytes.length → ∃ t, s.load bytes = .ok t ∧
      t.cpu = { pc := wordOf (byte 0x26) (byte 0x25), a := byte 0x27, x := byte 0x28, y := byte 0x29, psw := byte 0x2A,
                sp := byte 0x2B, run := .running } ∧
      (∀ a < 65536, t.ram.read a = byte (0x100 + a)) ∧
      (t.io.test = 0x0A ∧ t.io.control = byte 0x1F1 ∧ t.io.dspAddr = byte 0x1F2) ∧
      (∀ k : Fin 4, t.io.cpuioIn[k] = byte (0x1F4 + k) ∧ t.io.cpuioOut[k] = byte (0x1F4 + k)) ∧
      (∀ k : Fin 3, t.io.tTarget[k] = byte (0x1FA + k) ∧ t.io.tDiv[k] = 0x00 ∧
        (t.io.tOut[k]).toNat = (byte (0x1FD + k)).toNat % 16) ∧
      (∀ r : BitVec 7, t.dsp.reg r = byte (0x10100 + r.toNat)) ∧
      t.dsp = { s.hostReset.dsp with regs := t.dsp.regs, konLatch := byte 0x1014C } ∧
      t = { s.hostReset with cpu := t.cpu, ram := t.ram, io := t.io, dsp := t.dsp })

/-- R620, R621, R622: the port accessors and `mute_voices`. -/
def Obligations.Ports : Prop :=
  ∀ (s : State) (k j : Fin 4) (v : Byte),
    s.readPort k = s.io.cpuioOut[k] ∧
    (s.writePort k v).peek (0x00F4 + BitVec.ofNat 16 j) = (if j = k then v else s.peek (0x00F4 + BitVec.ofNat 16 j)) ∧
    s.writePort k v = { s with io := { s.io with cpuioIn := (s.writePort k v).io.cpuioIn } } ∧
    s.muteVoices v = { s with muteMask := v }

/-- R603: a run that is not faulted at its start always ends, with exactly `sample_count / 2` frames, or with the fault a step
set; `skip` leaves the same state and result (R604). The frames of a failed run are the model's choice (log entry 12). -/
def Obligations.PlayEnds : Prop :=
  ∀ (s : State) (n : Nat), s.runnable →
    ((s.play n).result = .ok ∧ (s.play n).frames.length = n / 2 ∧ (s.play n).state.fault = none ∨
      ∃ r, (s.play n).result = .err r ∧ (s.play n).state.fault = some r ∧ (s.play n).frames.length ≤ n / 2) ∧
    (s.skip n).state = (s.play n).state ∧ (s.skip n).result = (s.play n).result

/-- R605: `play(0)` changes only `lifecycle`; `play(N)` followed by `play(M)` from the state it left gives the frames, the
state and the result of `play(N + M)`; `skip(N)` followed by `play(M)` gives the frames of `play(N + M)` without the first
N samples; for even N and M. -/
def Obligations.PlayComposes : Prop :=
  ∀ (s : State) (n m : Nat), s.runnable → n % 2 = 0 → m % 2 = 0 → (s.play n).result = .ok →
    (s.play 0).state = { s with lifecycle := .running } ∧ (s.play 0).result = .ok ∧ (s.play 0).frames = [] ∧
    s.play (n + m) = { (s.play n).state.play m with frames := (s.play n).frames ++ ((s.play n).state.play m).frames } ∧
    ((s.skip n).state.play m).frames = (s.play (n + m)).frames.drop (n / 2)
end

