-- ==== Sys2Proof/Laws/Memory.lean ====
section
/-! SUPPORT. The laws of memory: a read after a write, and that every operation keeps the canonical form. -/

namespace Sys2Proof.Machine

open Sys2Proof

theorem Memory.read_erase (m : Memory) (a b : Nat) : (m.erase a).read b = if b = a then 0 else m.read b := by
  induction m with
  | nil => simp [erase, read]
  | cons c m ih =>
    obtain ⟨k, w⟩ := c
    by_cases h : a = k <;> by_cases h' : b = k <;> simp_all [erase, read]
    exact fun e => absurd e.symm h

theorem Memory.read_insert (m : Memory) (a b : Nat) (v : Byte) :
    (m.insert a v).read b = if b = a then v else m.read b := by
  induction m with
  | nil => simp [insert, read]
  | cons c m ih =>
    obtain ⟨k, w⟩ := c
    simp only [insert]
    split
    · simp [read]
    · split
      · subst k; by_cases h' : b = a <;> simp [read, h']
      · by_cases h' : b = k
        · subst b; simp [read]; intro h; omega
        · simp [read, h', ih]

/-- A read after a write: the written byte at its address, every other byte as before. -/
theorem Memory.read_write (m : Memory) (a b : Nat) (v : Byte) :
    (m.write a v).read b = if b = a then v else m.read b := by
  unfold write
  split
  · rename_i h; subst v; exact read_erase m a b
  · exact read_insert m a b v

@[simp] theorem Memory.read_write_same (m : Memory) (a : Nat) (v : Byte) : (m.write a v).read a = v := by
  simp [read_write]

theorem Memory.read_write_ne (m : Memory) {a b : Nat} (v : Byte) (h : b ≠ a) : (m.write a v).read b = m.read b := by
  simp [read_write, h]

theorem Memory.mem_erase {m : Memory} {a : Nat} {c : Host.Cell} (h : c ∈ m.erase a) : c ∈ m ∧ c.1 ≠ a := by
  induction m with
  | nil => simp [erase] at h
  | cons d m ih =>
    obtain ⟨k, w⟩ := d
    simp only [erase] at h
    split at h
    · exact ⟨List.mem_cons_of_mem _ (ih h).1, (ih h).2⟩
    · rcases List.mem_cons.1 h with rfl | h
      · exact ⟨List.mem_cons_self, fun e => ‹¬ a = k› e.symm⟩
      · exact ⟨List.mem_cons_of_mem _ (ih h).1, (ih h).2⟩

theorem Memory.mem_insert {m : Memory} {a : Nat} {v : Byte} {c : Host.Cell} (h : c ∈ m.insert a v) :
    c = (a, v) ∨ c ∈ m := by
  induction m with
  | nil => simpa [insert] using h
  | cons d m ih =>
    obtain ⟨k, w⟩ := d
    simp only [insert] at h
    split at h
    · simpa using h
    · split at h
      · rcases List.mem_cons.1 h with h | h
        · exact .inl h
        · exact .inr (List.mem_cons_of_mem _ h)
      · rcases List.mem_cons.1 h with h | h
        · exact .inr (h ▸ List.mem_cons_self)
        · exact (ih h).imp id (List.mem_cons_of_mem _)

theorem Memory.wf_erase {m : Memory} (a : Nat) (h : m.wf) : (m.erase a).wf := by
  refine ⟨?_, fun c hc => h.2 c (mem_erase hc).1⟩
  have hp := h.1
  clear h
  induction m with
  | nil => simp [erase]
  | cons d m ih =>
    obtain ⟨k, w⟩ := d
    rw [List.pairwise_cons] at hp
    simp only [erase]
    split
    · exact ih hp.2
    · exact List.pairwise_cons.2 ⟨fun c hc => hp.1 c (mem_erase hc).1, ih hp.2⟩

theorem Memory.wf_insert {m : Memory} {a : Nat} {v : Byte} (ha : a < 65536) (hv : v ≠ 0) (h : m.wf) :
    (m.insert a v).wf := by
  refine ⟨?_, fun c hc => ?_⟩
  · have hp := h.1
    clear h
    induction m with
    | nil => simp [insert]
    | cons d m ih =>
      obtain ⟨k, w⟩ := d
      rw [List.pairwise_cons] at hp
      simp only [insert]
      split
      · refine List.pairwise_cons.2 ⟨fun c hc => ?_, List.pairwise_cons.2 hp⟩
        rcases List.mem_cons.1 hc with rfl | hc
        · assumption
        · exact lt_trans ‹a < k› (hp.1 c hc)
      · split
        · subst k; exact List.pairwise_cons.2 hp
        · refine List.pairwise_cons.2 ⟨fun c hc => ?_, ih hp.2⟩
          rcases mem_insert hc with rfl | hc
          · show k < a; omega
          · exact hp.1 c hc
  · rcases mem_insert hc with rfl | hc
    · exact ⟨ha, hv⟩
    · exact h.2 c hc

/-- A write keeps the canonical form. -/
theorem Memory.wf_write {m : Memory} {a : Nat} (v : Byte) (ha : a < 65536) (h : m.wf) : (m.write a v).wf := by
  unfold write
  split
  · exact wf_erase a h
  · exact wf_insert ha ‹_› h

theorem Memory.mem_ofImage {l : List Byte} {a : Nat} {c : Host.Cell} (h : c ∈ Memory.ofImage a l) :
    a ≤ c.1 ∧ c.1 < a + l.length ∧ c.2 ≠ 0 := by
  induction l generalizing a with
  | nil => simp [ofImage] at h
  | cons v l ih =>
    simp only [ofImage] at h
    split at h
    · obtain ⟨h1, h2, h3⟩ := ih h
      exact ⟨by omega, by simp only [List.length_cons]; omega, h3⟩
    · rcases List.mem_cons.1 h with rfl | h
      · exact ⟨Nat.le_refl _, by simp, ‹_›⟩
      · obtain ⟨h1, h2, h3⟩ := ih h
        exact ⟨by omega, by simp only [List.length_cons]; omega, h3⟩

/-- An image in the address space is in canonical form. -/
theorem Memory.wf_ofImage {a : Nat} {l : List Byte} (h : a + l.length ≤ 65536) : (Memory.ofImage a l).wf := by
  refine ⟨?_, fun c hc => ⟨by have := (mem_ofImage hc).2.1; omega, (mem_ofImage hc).2.2⟩⟩
  clear h
  induction l generalizing a with
  | nil => simp [ofImage]
  | cons v l ih =>
    simp only [ofImage]
    split
    · exact ih
    · exact List.pairwise_cons.2 ⟨fun c hc => by have := (mem_ofImage hc).1; show a < c.1; omega, ih⟩

/-- Reading an image: the byte at its offset, 0x00 outside. -/
theorem Memory.read_ofImage (l : List Byte) (a b : Nat) :
    (Memory.ofImage a l).read b = if a ≤ b then l.getD (b - a) 0 else 0 := by
  induction l generalizing a with
  | nil => simp [ofImage, read]
  | cons v l ih =>
    simp only [ofImage]
    rcases Nat.lt_trichotomy a b with h | rfl | h
    · obtain ⟨k, rfl⟩ : ∃ k, b = a + 1 + k := ⟨b - (a + 1), by omega⟩
      have e : a + 1 + k - a = k + 1 := by omega
      split
      · rw [ih]; simp [e, show a ≤ a + 1 + k by omega]
      · simp only [read, ih]; simp [e, show a ≤ a + 1 + k by omega, show ¬ a + 1 + k = a by omega]
    · split
      · rw [ih]; simp_all
      · simp [read]
    · split
      · rw [ih]; simp [show ¬ a + 1 ≤ b by omega, show ¬ a ≤ b by omega]
      · simp only [read, ih]; simp [show ¬ a + 1 ≤ b by omega, show ¬ a ≤ b by omega, show ¬ b = a by omega]

/-- Two memories in canonical form that read the same are the same. -/
theorem Memory.ext_of_read {m n : Memory} (hm : m.wf) (hn : n.wf) (h : ∀ a, m.read a = n.read a) : m = n := by
  have low : ∀ (k : Nat) (l : Memory), (∀ c ∈ l, k < c.1) → Memory.read l k = 0 := by
    intro k l hl
    induction l with
    | nil => rfl
    | cons c l ih =>
      obtain ⟨j, w⟩ := c
      have : k < j := hl (j, w) List.mem_cons_self
      simp only [read, show ¬ k = j by omega, if_false]
      exact ih fun c hc => hl c (List.mem_cons_of_mem _ hc)
  induction m generalizing n with
  | nil =>
    cases n with
    | nil => rfl
    | cons c n =>
      have := h c.1
      simp only [read, if_true] at this
      exact absurd this.symm (hn.2 c List.mem_cons_self).2
  | cons c m ih =>
    obtain ⟨j, w⟩ := c
    have hmc := List.pairwise_cons.1 hm.1
    have hw : w ≠ 0 := (hm.2 _ List.mem_cons_self).2
    cases n with
    | nil =>
      have := h j
      simp only [read, if_true] at this
      exact absurd this hw
    | cons d n =>
      obtain ⟨k, x⟩ := d
      have hnc := List.pairwise_cons.1 hn.1
      have hx : x ≠ 0 := (hn.2 _ List.mem_cons_self).2
      have hjk : j = k := by
        rcases Nat.lt_trichotomy j k with hlt | he | hlt
        · have := h j
          simp only [read, if_true, show ¬ j = k by omega, if_false] at this
          rw [low j n fun c hc => by have := hnc.1 c hc; simp only at this; omega] at this
          exact absurd this hw
        · exact he
        · have := h k
          simp only [read, if_true, show ¬ k = j by omega, if_false] at this
          rw [low k m fun c hc => by have := hmc.1 c hc; simp only at this; omega] at this
          exact absurd this.symm hx
      subst k
      have hwx : w = x := by have := h j; simpa [read] using this
      subst x
      have : m = n := by
        refine ih ⟨hmc.2, fun c hc => hm.2 c (List.mem_cons_of_mem _ hc)⟩
          ⟨hnc.2, fun c hc => hn.2 c (List.mem_cons_of_mem _ hc)⟩ fun a => ?_
        by_cases ha : a = j
        · subst a; rw [low j m hmc.1, low j n hnc.1]
        · have := h a; simpa [read, ha] using this
      rw [this]

end Sys2Proof.Machine
end

