-- ==== Sys2Proof/Laws/State.lean ====
section
/-! SUPPORT. One lemma per field per update of the state, all by computation, so that no proof unfolds a record update. -/

namespace Sys2Proof.Machine

open Sys2Proof

variable (s : State)

@[simp] theorem State.setA_cpu_a (v : Byte) : (s.setA v).cpu.a = v := rfl
@[simp] theorem State.setA_cpu_x (v : Byte) : (s.setA v).cpu.x = s.cpu.x := rfl
@[simp] theorem State.setA_cpu_y (v : Byte) : (s.setA v).cpu.y = s.cpu.y := rfl
@[simp] theorem State.setA_cpu_sp (v : Byte) : (s.setA v).cpu.sp = s.cpu.sp := rfl
@[simp] theorem State.setA_cpu_pc (v : Byte) : (s.setA v).cpu.pc = s.cpu.pc := rfl
@[simp] theorem State.setA_cpu_psw (v : Byte) : (s.setA v).cpu.psw = s.cpu.psw := rfl
@[simp] theorem State.setA_cpu_run (v : Byte) : (s.setA v).cpu.run = s.cpu.run := rfl
@[simp] theorem State.setA_ram (v : Byte) : (s.setA v).ram = s.ram := rfl
@[simp] theorem State.setA_io (v : Byte) : (s.setA v).io = s.io := rfl
@[simp] theorem State.setA_clk (v : Byte) : (s.setA v).clk = s.clk := rfl
@[simp] theorem State.setA_dsp (v : Byte) : (s.setA v).dsp = s.dsp := rfl
@[simp] theorem State.setA_fault (v : Byte) : (s.setA v).fault = s.fault := rfl
@[simp] theorem State.setA_lifecycle (v : Byte) : (s.setA v).lifecycle = s.lifecycle := rfl
@[simp] theorem State.setA_muteMask (v : Byte) : (s.setA v).muteMask = s.muteMask := rfl
@[simp] theorem State.setA_cycles (v : Byte) : (s.setA v).cycles = s.cycles := rfl
@[simp] theorem State.setA_frame (v : Byte) : (s.setA v).frame = s.frame := rfl

@[simp] theorem State.setX_cpu_a (v : Byte) : (s.setX v).cpu.a = s.cpu.a := rfl
@[simp] theorem State.setX_cpu_x (v : Byte) : (s.setX v).cpu.x = v := rfl
@[simp] theorem State.setX_cpu_y (v : Byte) : (s.setX v).cpu.y = s.cpu.y := rfl
@[simp] theorem State.setX_cpu_sp (v : Byte) : (s.setX v).cpu.sp = s.cpu.sp := rfl
@[simp] theorem State.setX_cpu_pc (v : Byte) : (s.setX v).cpu.pc = s.cpu.pc := rfl
@[simp] theorem State.setX_cpu_psw (v : Byte) : (s.setX v).cpu.psw = s.cpu.psw := rfl
@[simp] theorem State.setX_cpu_run (v : Byte) : (s.setX v).cpu.run = s.cpu.run := rfl
@[simp] theorem State.setX_ram (v : Byte) : (s.setX v).ram = s.ram := rfl
@[simp] theorem State.setX_io (v : Byte) : (s.setX v).io = s.io := rfl
@[simp] theorem State.setX_clk (v : Byte) : (s.setX v).clk = s.clk := rfl
@[simp] theorem State.setX_dsp (v : Byte) : (s.setX v).dsp = s.dsp := rfl
@[simp] theorem State.setX_fault (v : Byte) : (s.setX v).fault = s.fault := rfl
@[simp] theorem State.setX_lifecycle (v : Byte) : (s.setX v).lifecycle = s.lifecycle := rfl
@[simp] theorem State.setX_muteMask (v : Byte) : (s.setX v).muteMask = s.muteMask := rfl
@[simp] theorem State.setX_cycles (v : Byte) : (s.setX v).cycles = s.cycles := rfl
@[simp] theorem State.setX_frame (v : Byte) : (s.setX v).frame = s.frame := rfl

@[simp] theorem State.setY_cpu_a (v : Byte) : (s.setY v).cpu.a = s.cpu.a := rfl
@[simp] theorem State.setY_cpu_x (v : Byte) : (s.setY v).cpu.x = s.cpu.x := rfl
@[simp] theorem State.setY_cpu_y (v : Byte) : (s.setY v).cpu.y = v := rfl
@[simp] theorem State.setY_cpu_sp (v : Byte) : (s.setY v).cpu.sp = s.cpu.sp := rfl
@[simp] theorem State.setY_cpu_pc (v : Byte) : (s.setY v).cpu.pc = s.cpu.pc := rfl
@[simp] theorem State.setY_cpu_psw (v : Byte) : (s.setY v).cpu.psw = s.cpu.psw := rfl
@[simp] theorem State.setY_cpu_run (v : Byte) : (s.setY v).cpu.run = s.cpu.run := rfl
@[simp] theorem State.setY_ram (v : Byte) : (s.setY v).ram = s.ram := rfl
@[simp] theorem State.setY_io (v : Byte) : (s.setY v).io = s.io := rfl
@[simp] theorem State.setY_clk (v : Byte) : (s.setY v).clk = s.clk := rfl
@[simp] theorem State.setY_dsp (v : Byte) : (s.setY v).dsp = s.dsp := rfl
@[simp] theorem State.setY_fault (v : Byte) : (s.setY v).fault = s.fault := rfl
@[simp] theorem State.setY_lifecycle (v : Byte) : (s.setY v).lifecycle = s.lifecycle := rfl
@[simp] theorem State.setY_muteMask (v : Byte) : (s.setY v).muteMask = s.muteMask := rfl
@[simp] theorem State.setY_cycles (v : Byte) : (s.setY v).cycles = s.cycles := rfl
@[simp] theorem State.setY_frame (v : Byte) : (s.setY v).frame = s.frame := rfl

@[simp] theorem State.setSp_cpu_a (v : Byte) : (s.setSp v).cpu.a = s.cpu.a := rfl
@[simp] theorem State.setSp_cpu_x (v : Byte) : (s.setSp v).cpu.x = s.cpu.x := rfl
@[simp] theorem State.setSp_cpu_y (v : Byte) : (s.setSp v).cpu.y = s.cpu.y := rfl
@[simp] theorem State.setSp_cpu_sp (v : Byte) : (s.setSp v).cpu.sp = v := rfl
@[simp] theorem State.setSp_cpu_pc (v : Byte) : (s.setSp v).cpu.pc = s.cpu.pc := rfl
@[simp] theorem State.setSp_cpu_psw (v : Byte) : (s.setSp v).cpu.psw = s.cpu.psw := rfl
@[simp] theorem State.setSp_cpu_run (v : Byte) : (s.setSp v).cpu.run = s.cpu.run := rfl
@[simp] theorem State.setSp_ram (v : Byte) : (s.setSp v).ram = s.ram := rfl
@[simp] theorem State.setSp_io (v : Byte) : (s.setSp v).io = s.io := rfl
@[simp] theorem State.setSp_clk (v : Byte) : (s.setSp v).clk = s.clk := rfl
@[simp] theorem State.setSp_dsp (v : Byte) : (s.setSp v).dsp = s.dsp := rfl
@[simp] theorem State.setSp_fault (v : Byte) : (s.setSp v).fault = s.fault := rfl
@[simp] theorem State.setSp_lifecycle (v : Byte) : (s.setSp v).lifecycle = s.lifecycle := rfl
@[simp] theorem State.setSp_muteMask (v : Byte) : (s.setSp v).muteMask = s.muteMask := rfl
@[simp] theorem State.setSp_cycles (v : Byte) : (s.setSp v).cycles = s.cycles := rfl
@[simp] theorem State.setSp_frame (v : Byte) : (s.setSp v).frame = s.frame := rfl

@[simp] theorem State.setPc_cpu_a (v : Word) : (s.setPc v).cpu.a = s.cpu.a := rfl
@[simp] theorem State.setPc_cpu_x (v : Word) : (s.setPc v).cpu.x = s.cpu.x := rfl
@[simp] theorem State.setPc_cpu_y (v : Word) : (s.setPc v).cpu.y = s.cpu.y := rfl
@[simp] theorem State.setPc_cpu_sp (v : Word) : (s.setPc v).cpu.sp = s.cpu.sp := rfl
@[simp] theorem State.setPc_cpu_pc (v : Word) : (s.setPc v).cpu.pc = v := rfl
@[simp] theorem State.setPc_cpu_psw (v : Word) : (s.setPc v).cpu.psw = s.cpu.psw := rfl
@[simp] theorem State.setPc_cpu_run (v : Word) : (s.setPc v).cpu.run = s.cpu.run := rfl
@[simp] theorem State.setPc_ram (v : Word) : (s.setPc v).ram = s.ram := rfl
@[simp] theorem State.setPc_io (v : Word) : (s.setPc v).io = s.io := rfl
@[simp] theorem State.setPc_clk (v : Word) : (s.setPc v).clk = s.clk := rfl
@[simp] theorem State.setPc_dsp (v : Word) : (s.setPc v).dsp = s.dsp := rfl
@[simp] theorem State.setPc_fault (v : Word) : (s.setPc v).fault = s.fault := rfl
@[simp] theorem State.setPc_lifecycle (v : Word) : (s.setPc v).lifecycle = s.lifecycle := rfl
@[simp] theorem State.setPc_muteMask (v : Word) : (s.setPc v).muteMask = s.muteMask := rfl
@[simp] theorem State.setPc_cycles (v : Word) : (s.setPc v).cycles = s.cycles := rfl
@[simp] theorem State.setPc_frame (v : Word) : (s.setPc v).frame = s.frame := rfl

@[simp] theorem State.setPsw_cpu_a (v : Byte) : (s.setPsw v).cpu.a = s.cpu.a := rfl
@[simp] theorem State.setPsw_cpu_x (v : Byte) : (s.setPsw v).cpu.x = s.cpu.x := rfl
@[simp] theorem State.setPsw_cpu_y (v : Byte) : (s.setPsw v).cpu.y = s.cpu.y := rfl
@[simp] theorem State.setPsw_cpu_sp (v : Byte) : (s.setPsw v).cpu.sp = s.cpu.sp := rfl
@[simp] theorem State.setPsw_cpu_pc (v : Byte) : (s.setPsw v).cpu.pc = s.cpu.pc := rfl
@[simp] theorem State.setPsw_cpu_psw (v : Byte) : (s.setPsw v).cpu.psw = v := rfl
@[simp] theorem State.setPsw_cpu_run (v : Byte) : (s.setPsw v).cpu.run = s.cpu.run := rfl
@[simp] theorem State.setPsw_ram (v : Byte) : (s.setPsw v).ram = s.ram := rfl
@[simp] theorem State.setPsw_io (v : Byte) : (s.setPsw v).io = s.io := rfl
@[simp] theorem State.setPsw_clk (v : Byte) : (s.setPsw v).clk = s.clk := rfl
@[simp] theorem State.setPsw_dsp (v : Byte) : (s.setPsw v).dsp = s.dsp := rfl
@[simp] theorem State.setPsw_fault (v : Byte) : (s.setPsw v).fault = s.fault := rfl
@[simp] theorem State.setPsw_lifecycle (v : Byte) : (s.setPsw v).lifecycle = s.lifecycle := rfl
@[simp] theorem State.setPsw_muteMask (v : Byte) : (s.setPsw v).muteMask = s.muteMask := rfl
@[simp] theorem State.setPsw_cycles (v : Byte) : (s.setPsw v).cycles = s.cycles := rfl
@[simp] theorem State.setPsw_frame (v : Byte) : (s.setPsw v).frame = s.frame := rfl

@[simp] theorem State.setRun_cpu_a (v : CpuRun) : (s.setRun v).cpu.a = s.cpu.a := rfl
@[simp] theorem State.setRun_cpu_x (v : CpuRun) : (s.setRun v).cpu.x = s.cpu.x := rfl
@[simp] theorem State.setRun_cpu_y (v : CpuRun) : (s.setRun v).cpu.y = s.cpu.y := rfl
@[simp] theorem State.setRun_cpu_sp (v : CpuRun) : (s.setRun v).cpu.sp = s.cpu.sp := rfl
@[simp] theorem State.setRun_cpu_pc (v : CpuRun) : (s.setRun v).cpu.pc = s.cpu.pc := rfl
@[simp] theorem State.setRun_cpu_psw (v : CpuRun) : (s.setRun v).cpu.psw = s.cpu.psw := rfl
@[simp] theorem State.setRun_cpu_run (v : CpuRun) : (s.setRun v).cpu.run = v := rfl
@[simp] theorem State.setRun_ram (v : CpuRun) : (s.setRun v).ram = s.ram := rfl
@[simp] theorem State.setRun_io (v : CpuRun) : (s.setRun v).io = s.io := rfl
@[simp] theorem State.setRun_clk (v : CpuRun) : (s.setRun v).clk = s.clk := rfl
@[simp] theorem State.setRun_dsp (v : CpuRun) : (s.setRun v).dsp = s.dsp := rfl
@[simp] theorem State.setRun_fault (v : CpuRun) : (s.setRun v).fault = s.fault := rfl
@[simp] theorem State.setRun_lifecycle (v : CpuRun) : (s.setRun v).lifecycle = s.lifecycle := rfl
@[simp] theorem State.setRun_muteMask (v : CpuRun) : (s.setRun v).muteMask = s.muteMask := rfl
@[simp] theorem State.setRun_cycles (v : CpuRun) : (s.setRun v).cycles = s.cycles := rfl
@[simp] theorem State.setRun_frame (v : CpuRun) : (s.setRun v).frame = s.frame := rfl

@[simp] theorem State.spend_cpu (n : Nat) : (s.spend n).cpu = s.cpu := rfl
@[simp] theorem State.spend_ram (n : Nat) : (s.spend n).ram = s.ram := rfl
@[simp] theorem State.spend_io (n : Nat) : (s.spend n).io = s.io := rfl
@[simp] theorem State.spend_clk (n : Nat) : (s.spend n).clk = s.clk := rfl
@[simp] theorem State.spend_dsp (n : Nat) : (s.spend n).dsp = s.dsp := rfl
@[simp] theorem State.spend_fault (n : Nat) : (s.spend n).fault = s.fault := rfl
@[simp] theorem State.spend_lifecycle (n : Nat) : (s.spend n).lifecycle = s.lifecycle := rfl
@[simp] theorem State.spend_muteMask (n : Nat) : (s.spend n).muteMask = s.muteMask := rfl
@[simp] theorem State.spend_cycles (n : Nat) : (s.spend n).cycles = n := rfl
@[simp] theorem State.spend_frame (n : Nat) : (s.spend n).frame = s.frame := rfl

@[simp] theorem State.raise_cpu (r : EmuFault) : (s.raise r).cpu = s.cpu := rfl
@[simp] theorem State.raise_ram (r : EmuFault) : (s.raise r).ram = s.ram := rfl
@[simp] theorem State.raise_io (r : EmuFault) : (s.raise r).io = s.io := rfl
@[simp] theorem State.raise_clk (r : EmuFault) : (s.raise r).clk = s.clk := rfl
@[simp] theorem State.raise_dsp (r : EmuFault) : (s.raise r).dsp = s.dsp := rfl
@[simp] theorem State.raise_fault (r : EmuFault) : (s.raise r).fault = some r := rfl
@[simp] theorem State.raise_lifecycle (r : EmuFault) : (s.raise r).lifecycle = s.lifecycle := rfl
@[simp] theorem State.raise_muteMask (r : EmuFault) : (s.raise r).muteMask = s.muteMask := rfl
@[simp] theorem State.raise_cycles (r : EmuFault) : (s.raise r).cycles = s.cycles := rfl
@[simp] theorem State.raise_frame (r : EmuFault) : (s.raise r).frame = s.frame := rfl

@[simp] theorem State.setTOut_cpu (k : Fin 3) (v : BitVec 4) : (s.setTOut k v).cpu = s.cpu := rfl
@[simp] theorem State.setTOut_ram (k : Fin 3) (v : BitVec 4) : (s.setTOut k v).ram = s.ram := rfl
@[simp] theorem State.setTOut_clk (k : Fin 3) (v : BitVec 4) : (s.setTOut k v).clk = s.clk := rfl
@[simp] theorem State.setTOut_dsp (k : Fin 3) (v : BitVec 4) : (s.setTOut k v).dsp = s.dsp := rfl
@[simp] theorem State.setTOut_fault (k : Fin 3) (v : BitVec 4) : (s.setTOut k v).fault = s.fault := rfl
@[simp] theorem State.setTOut_lifecycle (k : Fin 3) (v : BitVec 4) : (s.setTOut k v).lifecycle = s.lifecycle := rfl
@[simp] theorem State.setTOut_muteMask (k : Fin 3) (v : BitVec 4) : (s.setTOut k v).muteMask = s.muteMask := rfl
@[simp] theorem State.setTOut_cycles (k : Fin 3) (v : BitVec 4) : (s.setTOut k v).cycles = s.cycles := rfl
@[simp] theorem State.setTOut_frame (k : Fin 3) (v : BitVec 4) : (s.setTOut k v).frame = s.frame := rfl
@[simp] theorem State.setTOut_io_test (k : Fin 3) (v : BitVec 4) : (s.setTOut k v).io.test = s.io.test := rfl
@[simp] theorem State.setTOut_io_control (k : Fin 3) (v : BitVec 4) : (s.setTOut k v).io.control = s.io.control := rfl
@[simp] theorem State.setTOut_io_dspAddr (k : Fin 3) (v : BitVec 4) : (s.setTOut k v).io.dspAddr = s.io.dspAddr := rfl
@[simp] theorem State.setTOut_io_cpuioIn (k : Fin 3) (v : BitVec 4) : (s.setTOut k v).io.cpuioIn = s.io.cpuioIn := rfl
@[simp] theorem State.setTOut_io_cpuioOut (k : Fin 3) (v : BitVec 4) : (s.setTOut k v).io.cpuioOut = s.io.cpuioOut := rfl
@[simp] theorem State.setTOut_io_tTarget (k : Fin 3) (v : BitVec 4) : (s.setTOut k v).io.tTarget = s.io.tTarget := rfl
@[simp] theorem State.setTOut_io_tDiv (k : Fin 3) (v : BitVec 4) : (s.setTOut k v).io.tDiv = s.io.tDiv := rfl
@[simp] theorem State.setTOut_io_tOut (k : Fin 3) (v : BitVec 4) : (s.setTOut k v).io.tOut = s.io.tOut.set k v := rfl

@[simp] theorem State.setTDiv_cpu (k : Fin 3) (v : Byte) : (s.setTDiv k v).cpu = s.cpu := rfl
@[simp] theorem State.setTDiv_ram (k : Fin 3) (v : Byte) : (s.setTDiv k v).ram = s.ram := rfl
@[simp] theorem State.setTDiv_clk (k : Fin 3) (v : Byte) : (s.setTDiv k v).clk = s.clk := rfl
@[simp] theorem State.setTDiv_dsp (k : Fin 3) (v : Byte) : (s.setTDiv k v).dsp = s.dsp := rfl
@[simp] theorem State.setTDiv_fault (k : Fin 3) (v : Byte) : (s.setTDiv k v).fault = s.fault := rfl
@[simp] theorem State.setTDiv_lifecycle (k : Fin 3) (v : Byte) : (s.setTDiv k v).lifecycle = s.lifecycle := rfl
@[simp] theorem State.setTDiv_muteMask (k : Fin 3) (v : Byte) : (s.setTDiv k v).muteMask = s.muteMask := rfl
@[simp] theorem State.setTDiv_cycles (k : Fin 3) (v : Byte) : (s.setTDiv k v).cycles = s.cycles := rfl
@[simp] theorem State.setTDiv_frame (k : Fin 3) (v : Byte) : (s.setTDiv k v).frame = s.frame := rfl
@[simp] theorem State.setTDiv_io_test (k : Fin 3) (v : Byte) : (s.setTDiv k v).io.test = s.io.test := rfl
@[simp] theorem State.setTDiv_io_control (k : Fin 3) (v : Byte) : (s.setTDiv k v).io.control = s.io.control := rfl
@[simp] theorem State.setTDiv_io_dspAddr (k : Fin 3) (v : Byte) : (s.setTDiv k v).io.dspAddr = s.io.dspAddr := rfl
@[simp] theorem State.setTDiv_io_cpuioIn (k : Fin 3) (v : Byte) : (s.setTDiv k v).io.cpuioIn = s.io.cpuioIn := rfl
@[simp] theorem State.setTDiv_io_cpuioOut (k : Fin 3) (v : Byte) : (s.setTDiv k v).io.cpuioOut = s.io.cpuioOut := rfl
@[simp] theorem State.setTDiv_io_tTarget (k : Fin 3) (v : Byte) : (s.setTDiv k v).io.tTarget = s.io.tTarget := rfl
@[simp] theorem State.setTDiv_io_tDiv (k : Fin 3) (v : Byte) : (s.setTDiv k v).io.tDiv = s.io.tDiv.set k v := rfl
@[simp] theorem State.setTDiv_io_tOut (k : Fin 3) (v : Byte) : (s.setTDiv k v).io.tOut = s.io.tOut := rfl

@[simp] theorem State.setRam_ram (a : Word) (v : Byte) : (s.setRam a v).ram = s.ram.write a.toNat v := rfl
@[simp] theorem State.setRam_cpu (a : Word) (v : Byte) : (s.setRam a v).cpu = s.cpu := rfl
@[simp] theorem State.setRam_io (a : Word) (v : Byte) : (s.setRam a v).io = s.io := rfl
@[simp] theorem State.setRam_clk (a : Word) (v : Byte) : (s.setRam a v).clk = s.clk := rfl
@[simp] theorem State.setRam_dsp (a : Word) (v : Byte) : (s.setRam a v).dsp = s.dsp := rfl
@[simp] theorem State.setRam_fault (a : Word) (v : Byte) : (s.setRam a v).fault = s.fault := rfl
@[simp] theorem State.setRam_lifecycle (a : Word) (v : Byte) : (s.setRam a v).lifecycle = s.lifecycle := rfl
@[simp] theorem State.setRam_muteMask (a : Word) (v : Byte) : (s.setRam a v).muteMask = s.muteMask := rfl
@[simp] theorem State.setRam_cycles (a : Word) (v : Byte) : (s.setRam a v).cycles = s.cycles := rfl
@[simp] theorem State.setRam_frame (a : Word) (v : Byte) : (s.setRam a v).frame = s.frame := rfl

end Sys2Proof.Machine
end

