-- ==== Sys2Proof/Laws/Bus.lean ====
section
/-! SUPPORT. What the bus operations and the operand forms leave as it is, and what a store changes: cited instead of
unfolding them. -/

namespace Sys2Proof.Machine

open Sys2Proof

variable (s : State)

/-! A read touches nothing but the timer counters (R121). -/

@[simp] theorem State.touch_cpu (a : Word) : (s.touch a).cpu = s.cpu := by
  unfold State.touch; split <;> rfl
@[simp] theorem State.touch_ram (a : Word) : (s.touch a).ram = s.ram := by
  unfold State.touch; split <;> rfl
@[simp] theorem State.touch_clk (a : Word) : (s.touch a).clk = s.clk := by
  unfold State.touch; split <;> rfl
@[simp] theorem State.touch_dsp (a : Word) : (s.touch a).dsp = s.dsp := by
  unfold State.touch; split <;> rfl
@[simp] theorem State.touch_fault (a : Word) : (s.touch a).fault = s.fault := by
  unfold State.touch; split <;> rfl
@[simp] theorem State.touch_lifecycle (a : Word) : (s.touch a).lifecycle = s.lifecycle := by
  unfold State.touch; split <;> rfl
@[simp] theorem State.touch_muteMask (a : Word) : (s.touch a).muteMask = s.muteMask := by
  unfold State.touch; split <;> rfl
@[simp] theorem State.touch_cycles (a : Word) : (s.touch a).cycles = s.cycles := by
  unfold State.touch; split <;> rfl
@[simp] theorem State.touch_frame (a : Word) : (s.touch a).frame = s.frame := by
  unfold State.touch; split <;> rfl
@[simp] theorem State.touch_io_test (a : Word) : (s.touch a).io.test = s.io.test := by
  unfold State.touch; split <;> rfl
@[simp] theorem State.touch_io_control (a : Word) : (s.touch a).io.control = s.io.control := by
  unfold State.touch; split <;> rfl
@[simp] theorem State.touch_io_dspAddr (a : Word) : (s.touch a).io.dspAddr = s.io.dspAddr := by
  unfold State.touch; split <;> rfl
@[simp] theorem State.touch_io_cpuioIn (a : Word) : (s.touch a).io.cpuioIn = s.io.cpuioIn := by
  unfold State.touch; split <;> rfl
@[simp] theorem State.touch_io_cpuioOut (a : Word) : (s.touch a).io.cpuioOut = s.io.cpuioOut := by
  unfold State.touch; split <;> rfl
@[simp] theorem State.touch_io_tTarget (a : Word) : (s.touch a).io.tTarget = s.io.tTarget := by
  unfold State.touch; split <;> rfl
@[simp] theorem State.touch_io_tDiv (a : Word) : (s.touch a).io.tDiv = s.io.tDiv := by
  unfold State.touch; split <;> rfl

/-! A dummy read neither (R124). -/

@[simp] theorem State.dummyRead_cpu (a : Word) : (s.dummyRead a).cpu = s.cpu := by
  unfold State.dummyRead; split <;> (try split) <;> rfl
@[simp] theorem State.dummyRead_ram (a : Word) : (s.dummyRead a).ram = s.ram := by
  unfold State.dummyRead; split <;> (try split) <;> rfl
@[simp] theorem State.dummyRead_clk (a : Word) : (s.dummyRead a).clk = s.clk := by
  unfold State.dummyRead; split <;> (try split) <;> rfl
@[simp] theorem State.dummyRead_dsp (a : Word) : (s.dummyRead a).dsp = s.dsp := by
  unfold State.dummyRead; split <;> (try split) <;> rfl
@[simp] theorem State.dummyRead_fault (a : Word) : (s.dummyRead a).fault = s.fault := by
  unfold State.dummyRead; split <;> (try split) <;> rfl
@[simp] theorem State.dummyRead_lifecycle (a : Word) : (s.dummyRead a).lifecycle = s.lifecycle := by
  unfold State.dummyRead; split <;> (try split) <;> rfl
@[simp] theorem State.dummyRead_muteMask (a : Word) : (s.dummyRead a).muteMask = s.muteMask := by
  unfold State.dummyRead; split <;> (try split) <;> rfl
@[simp] theorem State.dummyRead_cycles (a : Word) : (s.dummyRead a).cycles = s.cycles := by
  unfold State.dummyRead; split <;> (try split) <;> rfl
@[simp] theorem State.dummyRead_frame (a : Word) : (s.dummyRead a).frame = s.frame := by
  unfold State.dummyRead; split <;> (try split) <;> rfl
@[simp] theorem State.dummyRead_io_test (a : Word) : (s.dummyRead a).io.test = s.io.test := by
  unfold State.dummyRead; split <;> (try split) <;> rfl
@[simp] theorem State.dummyRead_io_control (a : Word) : (s.dummyRead a).io.control = s.io.control := by
  unfold State.dummyRead; split <;> (try split) <;> rfl
@[simp] theorem State.dummyRead_io_dspAddr (a : Word) : (s.dummyRead a).io.dspAddr = s.io.dspAddr := by
  unfold State.dummyRead; split <;> (try split) <;> rfl
@[simp] theorem State.dummyRead_io_cpuioIn (a : Word) : (s.dummyRead a).io.cpuioIn = s.io.cpuioIn := by
  unfold State.dummyRead; split <;> (try split) <;> rfl
@[simp] theorem State.dummyRead_io_cpuioOut (a : Word) : (s.dummyRead a).io.cpuioOut = s.io.cpuioOut := by
  unfold State.dummyRead; split <;> (try split) <;> rfl
@[simp] theorem State.dummyRead_io_tTarget (a : Word) : (s.dummyRead a).io.tTarget = s.io.tTarget := by
  unfold State.dummyRead; split <;> (try split) <;> rfl
@[simp] theorem State.dummyRead_io_tDiv (a : Word) : (s.dummyRead a).io.tDiv = s.io.tDiv := by
  unfold State.dummyRead; split <;> (try split) <;> rfl

/-! A word read neither. -/

@[simp] theorem State.touchDpWord_cpu (o : Byte) : (s.touchDpWord o).cpu = s.cpu := by
  simp [State.touchDpWord]
@[simp] theorem State.touchDpWord_ram (o : Byte) : (s.touchDpWord o).ram = s.ram := by
  simp [State.touchDpWord]
@[simp] theorem State.touchDpWord_clk (o : Byte) : (s.touchDpWord o).clk = s.clk := by
  simp [State.touchDpWord]
@[simp] theorem State.touchDpWord_dsp (o : Byte) : (s.touchDpWord o).dsp = s.dsp := by
  simp [State.touchDpWord]
@[simp] theorem State.touchDpWord_fault (o : Byte) : (s.touchDpWord o).fault = s.fault := by
  simp [State.touchDpWord]
@[simp] theorem State.touchDpWord_lifecycle (o : Byte) : (s.touchDpWord o).lifecycle = s.lifecycle := by
  simp [State.touchDpWord]
@[simp] theorem State.touchDpWord_muteMask (o : Byte) : (s.touchDpWord o).muteMask = s.muteMask := by
  simp [State.touchDpWord]
@[simp] theorem State.touchDpWord_cycles (o : Byte) : (s.touchDpWord o).cycles = s.cycles := by
  simp [State.touchDpWord]
@[simp] theorem State.touchDpWord_frame (o : Byte) : (s.touchDpWord o).frame = s.frame := by
  simp [State.touchDpWord]
@[simp] theorem State.touchDpWord_io_test (o : Byte) : (s.touchDpWord o).io.test = s.io.test := by
  simp [State.touchDpWord]
@[simp] theorem State.touchDpWord_io_control (o : Byte) : (s.touchDpWord o).io.control = s.io.control := by
  simp [State.touchDpWord]
@[simp] theorem State.touchDpWord_io_dspAddr (o : Byte) : (s.touchDpWord o).io.dspAddr = s.io.dspAddr := by
  simp [State.touchDpWord]
@[simp] theorem State.touchDpWord_io_cpuioIn (o : Byte) : (s.touchDpWord o).io.cpuioIn = s.io.cpuioIn := by
  simp [State.touchDpWord]
@[simp] theorem State.touchDpWord_io_cpuioOut (o : Byte) : (s.touchDpWord o).io.cpuioOut = s.io.cpuioOut := by
  simp [State.touchDpWord]
@[simp] theorem State.touchDpWord_io_tTarget (o : Byte) : (s.touchDpWord o).io.tTarget = s.io.tTarget := by
  simp [State.touchDpWord]
@[simp] theorem State.touchDpWord_io_tDiv (o : Byte) : (s.touchDpWord o).io.tDiv = s.io.tDiv := by
  simp [State.touchDpWord]

@[simp] theorem State.touchWord_cpu (a : Word) : (s.touchWord a).cpu = s.cpu := by
  simp [State.touchWord]
@[simp] theorem State.touchWord_ram (a : Word) : (s.touchWord a).ram = s.ram := by
  simp [State.touchWord]
@[simp] theorem State.touchWord_clk (a : Word) : (s.touchWord a).clk = s.clk := by
  simp [State.touchWord]
@[simp] theorem State.touchWord_dsp (a : Word) : (s.touchWord a).dsp = s.dsp := by
  simp [State.touchWord]
@[simp] theorem State.touchWord_fault (a : Word) : (s.touchWord a).fault = s.fault := by
  simp [State.touchWord]
@[simp] theorem State.touchWord_lifecycle (a : Word) : (s.touchWord a).lifecycle = s.lifecycle := by
  simp [State.touchWord]
@[simp] theorem State.touchWord_muteMask (a : Word) : (s.touchWord a).muteMask = s.muteMask := by
  simp [State.touchWord]
@[simp] theorem State.touchWord_cycles (a : Word) : (s.touchWord a).cycles = s.cycles := by
  simp [State.touchWord]
@[simp] theorem State.touchWord_frame (a : Word) : (s.touchWord a).frame = s.frame := by
  simp [State.touchWord]
@[simp] theorem State.touchWord_io_test (a : Word) : (s.touchWord a).io.test = s.io.test := by
  simp [State.touchWord]
@[simp] theorem State.touchWord_io_control (a : Word) : (s.touchWord a).io.control = s.io.control := by
  simp [State.touchWord]
@[simp] theorem State.touchWord_io_dspAddr (a : Word) : (s.touchWord a).io.dspAddr = s.io.dspAddr := by
  simp [State.touchWord]
@[simp] theorem State.touchWord_io_cpuioIn (a : Word) : (s.touchWord a).io.cpuioIn = s.io.cpuioIn := by
  simp [State.touchWord]
@[simp] theorem State.touchWord_io_cpuioOut (a : Word) : (s.touchWord a).io.cpuioOut = s.io.cpuioOut := by
  simp [State.touchWord]
@[simp] theorem State.touchWord_io_tTarget (a : Word) : (s.touchWord a).io.tTarget = s.io.tTarget := by
  simp [State.touchWord]
@[simp] theorem State.touchWord_io_tDiv (a : Word) : (s.touchWord a).io.tDiv = s.io.tDiv := by
  simp [State.touchWord]

/-! An operand byte advances PC (R9). -/

@[simp] theorem State.passOperand_cpu_pc : s.passOperand.cpu.pc = s.cpu.pc + 1 := by
  simp [State.passOperand]
@[simp] theorem State.passOperand_cpu_a : s.passOperand.cpu.a = s.cpu.a := by
  simp [State.passOperand]
@[simp] theorem State.passOperand_cpu_x : s.passOperand.cpu.x = s.cpu.x := by
  simp [State.passOperand]
@[simp] theorem State.passOperand_cpu_y : s.passOperand.cpu.y = s.cpu.y := by
  simp [State.passOperand]
@[simp] theorem State.passOperand_cpu_sp : s.passOperand.cpu.sp = s.cpu.sp := by
  simp [State.passOperand]
@[simp] theorem State.passOperand_cpu_psw : s.passOperand.cpu.psw = s.cpu.psw := by
  simp [State.passOperand]
@[simp] theorem State.passOperand_cpu_run : s.passOperand.cpu.run = s.cpu.run := by
  simp [State.passOperand]
@[simp] theorem State.passOperand_ram : s.passOperand.ram = s.ram := by
  simp [State.passOperand]
@[simp] theorem State.passOperand_clk : s.passOperand.clk = s.clk := by
  simp [State.passOperand]
@[simp] theorem State.passOperand_dsp : s.passOperand.dsp = s.dsp := by
  simp [State.passOperand]
@[simp] theorem State.passOperand_fault : s.passOperand.fault = s.fault := by
  simp [State.passOperand]
@[simp] theorem State.passOperand_lifecycle : s.passOperand.lifecycle = s.lifecycle := by
  simp [State.passOperand]
@[simp] theorem State.passOperand_muteMask : s.passOperand.muteMask = s.muteMask := by
  simp [State.passOperand]
@[simp] theorem State.passOperand_cycles : s.passOperand.cycles = s.cycles := by
  simp [State.passOperand]
@[simp] theorem State.passOperand_frame : s.passOperand.frame = s.frame := by
  simp [State.passOperand]
@[simp] theorem State.passOperand_io : s.passOperand.io = (s.touch s.cpu.pc).io := by
  simp [State.passOperand]

/-! The operand forms: fetching, locating and reading an operand change PC by the form's length and timer counters only. -/

/-- The number of operand bytes of a form. -/
def Mode.bytes : Mode → Word
  | .ix => 0
  | .iy => 0
  | .dp _ => 1
  | .dpX _ => 1
  | .dpY _ => 1
  | .abs _ => 2
  | .absX _ => 2
  | .absY _ => 2
  | .indX _ => 1
  | .indY _ => 1

variable (m : Mode)

@[simp] theorem Mode.passed_cpu_pc : (m.passed s).cpu.pc = s.cpu.pc + m.bytes := by
  cases m <;> simp [Mode.passed, Mode.bytes, BitVec.add_assoc]
@[simp] theorem Mode.passed_cpu_a : (m.passed s).cpu.a = s.cpu.a := by
  cases m <;> simp [Mode.passed]
@[simp] theorem Mode.passed_cpu_x : (m.passed s).cpu.x = s.cpu.x := by
  cases m <;> simp [Mode.passed]
@[simp] theorem Mode.passed_cpu_y : (m.passed s).cpu.y = s.cpu.y := by
  cases m <;> simp [Mode.passed]
@[simp] theorem Mode.passed_cpu_sp : (m.passed s).cpu.sp = s.cpu.sp := by
  cases m <;> simp [Mode.passed]
@[simp] theorem Mode.passed_cpu_psw : (m.passed s).cpu.psw = s.cpu.psw := by
  cases m <;> simp [Mode.passed]
@[simp] theorem Mode.passed_cpu_run : (m.passed s).cpu.run = s.cpu.run := by
  cases m <;> simp [Mode.passed]
@[simp] theorem Mode.passed_ram : (m.passed s).ram = s.ram := by
  cases m <;> simp [Mode.passed]
@[simp] theorem Mode.passed_clk : (m.passed s).clk = s.clk := by
  cases m <;> simp [Mode.passed]
@[simp] theorem Mode.passed_dsp : (m.passed s).dsp = s.dsp := by
  cases m <;> simp [Mode.passed]
@[simp] theorem Mode.passed_fault : (m.passed s).fault = s.fault := by
  cases m <;> simp [Mode.passed]
@[simp] theorem Mode.passed_lifecycle : (m.passed s).lifecycle = s.lifecycle := by
  cases m <;> simp [Mode.passed]
@[simp] theorem Mode.passed_muteMask : (m.passed s).muteMask = s.muteMask := by
  cases m <;> simp [Mode.passed]
@[simp] theorem Mode.passed_cycles : (m.passed s).cycles = s.cycles := by
  cases m <;> simp [Mode.passed]
@[simp] theorem Mode.passed_frame : (m.passed s).frame = s.frame := by
  cases m <;> simp [Mode.passed]
@[simp] theorem Mode.passed_io_test : (m.passed s).io.test = s.io.test := by
  cases m <;> simp [Mode.passed]
@[simp] theorem Mode.passed_io_control : (m.passed s).io.control = s.io.control := by
  cases m <;> simp [Mode.passed]
@[simp] theorem Mode.passed_io_dspAddr : (m.passed s).io.dspAddr = s.io.dspAddr := by
  cases m <;> simp [Mode.passed]
@[simp] theorem Mode.passed_io_cpuioIn : (m.passed s).io.cpuioIn = s.io.cpuioIn := by
  cases m <;> simp [Mode.passed]
@[simp] theorem Mode.passed_io_cpuioOut : (m.passed s).io.cpuioOut = s.io.cpuioOut := by
  cases m <;> simp [Mode.passed]
@[simp] theorem Mode.passed_io_tTarget : (m.passed s).io.tTarget = s.io.tTarget := by
  cases m <;> simp [Mode.passed]
@[simp] theorem Mode.passed_io_tDiv : (m.passed s).io.tDiv = s.io.tDiv := by
  cases m <;> simp [Mode.passed]

@[simp] theorem Mode.pointed_cpu : (m.pointed s).cpu = s.cpu := by
  cases m <;> simp [Mode.pointed]
@[simp] theorem Mode.pointed_ram : (m.pointed s).ram = s.ram := by
  cases m <;> simp [Mode.pointed]
@[simp] theorem Mode.pointed_clk : (m.pointed s).clk = s.clk := by
  cases m <;> simp [Mode.pointed]
@[simp] theorem Mode.pointed_dsp : (m.pointed s).dsp = s.dsp := by
  cases m <;> simp [Mode.pointed]
@[simp] theorem Mode.pointed_fault : (m.pointed s).fault = s.fault := by
  cases m <;> simp [Mode.pointed]
@[simp] theorem Mode.pointed_lifecycle : (m.pointed s).lifecycle = s.lifecycle := by
  cases m <;> simp [Mode.pointed]
@[simp] theorem Mode.pointed_muteMask : (m.pointed s).muteMask = s.muteMask := by
  cases m <;> simp [Mode.pointed]
@[simp] theorem Mode.pointed_cycles : (m.pointed s).cycles = s.cycles := by
  cases m <;> simp [Mode.pointed]
@[simp] theorem Mode.pointed_frame : (m.pointed s).frame = s.frame := by
  cases m <;> simp [Mode.pointed]
@[simp] theorem Mode.pointed_io_test : (m.pointed s).io.test = s.io.test := by
  cases m <;> simp [Mode.pointed]
@[simp] theorem Mode.pointed_io_control : (m.pointed s).io.control = s.io.control := by
  cases m <;> simp [Mode.pointed]
@[simp] theorem Mode.pointed_io_dspAddr : (m.pointed s).io.dspAddr = s.io.dspAddr := by
  cases m <;> simp [Mode.pointed]
@[simp] theorem Mode.pointed_io_cpuioIn : (m.pointed s).io.cpuioIn = s.io.cpuioIn := by
  cases m <;> simp [Mode.pointed]
@[simp] theorem Mode.pointed_io_cpuioOut : (m.pointed s).io.cpuioOut = s.io.cpuioOut := by
  cases m <;> simp [Mode.pointed]
@[simp] theorem Mode.pointed_io_tTarget : (m.pointed s).io.tTarget = s.io.tTarget := by
  cases m <;> simp [Mode.pointed]
@[simp] theorem Mode.pointed_io_tDiv : (m.pointed s).io.tDiv = s.io.tDiv := by
  cases m <;> simp [Mode.pointed]

@[simp] theorem Mode.located_cpu_pc : (m.located s).cpu.pc = s.cpu.pc + m.bytes := by
  simp [Mode.located]
@[simp] theorem Mode.located_cpu_a : (m.located s).cpu.a = s.cpu.a := by
  simp [Mode.located]
@[simp] theorem Mode.located_cpu_x : (m.located s).cpu.x = s.cpu.x := by
  simp [Mode.located]
@[simp] theorem Mode.located_cpu_y : (m.located s).cpu.y = s.cpu.y := by
  simp [Mode.located]
@[simp] theorem Mode.located_cpu_sp : (m.located s).cpu.sp = s.cpu.sp := by
  simp [Mode.located]
@[simp] theorem Mode.located_cpu_psw : (m.located s).cpu.psw = s.cpu.psw := by
  simp [Mode.located]
@[simp] theorem Mode.located_cpu_run : (m.located s).cpu.run = s.cpu.run := by
  simp [Mode.located]
@[simp] theorem Mode.located_ram : (m.located s).ram = s.ram := by
  simp [Mode.located]
@[simp] theorem Mode.located_clk : (m.located s).clk = s.clk := by
  simp [Mode.located]
@[simp] theorem Mode.located_dsp : (m.located s).dsp = s.dsp := by
  simp [Mode.located]
@[simp] theorem Mode.located_fault : (m.located s).fault = s.fault := by
  simp [Mode.located]
@[simp] theorem Mode.located_lifecycle : (m.located s).lifecycle = s.lifecycle := by
  simp [Mode.located]
@[simp] theorem Mode.located_muteMask : (m.located s).muteMask = s.muteMask := by
  simp [Mode.located]
@[simp] theorem Mode.located_cycles : (m.located s).cycles = s.cycles := by
  simp [Mode.located]
@[simp] theorem Mode.located_frame : (m.located s).frame = s.frame := by
  simp [Mode.located]
@[simp] theorem Mode.located_io_test : (m.located s).io.test = s.io.test := by
  simp [Mode.located]
@[simp] theorem Mode.located_io_control : (m.located s).io.control = s.io.control := by
  simp [Mode.located]
@[simp] theorem Mode.located_io_dspAddr : (m.located s).io.dspAddr = s.io.dspAddr := by
  simp [Mode.located]
@[simp] theorem Mode.located_io_cpuioIn : (m.located s).io.cpuioIn = s.io.cpuioIn := by
  simp [Mode.located]
@[simp] theorem Mode.located_io_cpuioOut : (m.located s).io.cpuioOut = s.io.cpuioOut := by
  simp [Mode.located]
@[simp] theorem Mode.located_io_tTarget : (m.located s).io.tTarget = s.io.tTarget := by
  simp [Mode.located]
@[simp] theorem Mode.located_io_tDiv : (m.located s).io.tDiv = s.io.tDiv := by
  simp [Mode.located]

@[simp] theorem Mode.readState_cpu_pc : (m.readState s).cpu.pc = s.cpu.pc + m.bytes := by
  simp [Mode.readState]
@[simp] theorem Mode.readState_cpu_a : (m.readState s).cpu.a = s.cpu.a := by
  simp [Mode.readState]
@[simp] theorem Mode.readState_cpu_x : (m.readState s).cpu.x = s.cpu.x := by
  simp [Mode.readState]
@[simp] theorem Mode.readState_cpu_y : (m.readState s).cpu.y = s.cpu.y := by
  simp [Mode.readState]
@[simp] theorem Mode.readState_cpu_sp : (m.readState s).cpu.sp = s.cpu.sp := by
  simp [Mode.readState]
@[simp] theorem Mode.readState_cpu_psw : (m.readState s).cpu.psw = s.cpu.psw := by
  simp [Mode.readState]
@[simp] theorem Mode.readState_cpu_run : (m.readState s).cpu.run = s.cpu.run := by
  simp [Mode.readState]
@[simp] theorem Mode.readState_ram : (m.readState s).ram = s.ram := by
  simp [Mode.readState]
@[simp] theorem Mode.readState_clk : (m.readState s).clk = s.clk := by
  simp [Mode.readState]
@[simp] theorem Mode.readState_dsp : (m.readState s).dsp = s.dsp := by
  simp [Mode.readState]
@[simp] theorem Mode.readState_fault : (m.readState s).fault = s.fault := by
  simp [Mode.readState]
@[simp] theorem Mode.readState_lifecycle : (m.readState s).lifecycle = s.lifecycle := by
  simp [Mode.readState]
@[simp] theorem Mode.readState_muteMask : (m.readState s).muteMask = s.muteMask := by
  simp [Mode.readState]
@[simp] theorem Mode.readState_cycles : (m.readState s).cycles = s.cycles := by
  simp [Mode.readState]
@[simp] theorem Mode.readState_frame : (m.readState s).frame = s.frame := by
  simp [Mode.readState]
@[simp] theorem Mode.readState_io_test : (m.readState s).io.test = s.io.test := by
  simp [Mode.readState]
@[simp] theorem Mode.readState_io_control : (m.readState s).io.control = s.io.control := by
  simp [Mode.readState]
@[simp] theorem Mode.readState_io_dspAddr : (m.readState s).io.dspAddr = s.io.dspAddr := by
  simp [Mode.readState]
@[simp] theorem Mode.readState_io_cpuioIn : (m.readState s).io.cpuioIn = s.io.cpuioIn := by
  simp [Mode.readState]
@[simp] theorem Mode.readState_io_cpuioOut : (m.readState s).io.cpuioOut = s.io.cpuioOut := by
  simp [Mode.readState]
@[simp] theorem Mode.readState_io_tTarget : (m.readState s).io.tTarget = s.io.tTarget := by
  simp [Mode.readState]
@[simp] theorem Mode.readState_io_tDiv : (m.readState s).io.tDiv = s.io.tDiv := by
  simp [Mode.readState]

/-! A store (R105): the byte goes to RAM; the CPU, the clock and the host's fields stay. -/

@[simp] theorem State.startTimer_cpu (v : Byte) (k : Fin 3) : (s.startTimer v k).cpu = s.cpu := by
  unfold State.startTimer; split <;> rfl
@[simp] theorem State.startTimer_ram (v : Byte) (k : Fin 3) : (s.startTimer v k).ram = s.ram := by
  unfold State.startTimer; split <;> rfl
@[simp] theorem State.startTimer_clk (v : Byte) (k : Fin 3) : (s.startTimer v k).clk = s.clk := by
  unfold State.startTimer; split <;> rfl
@[simp] theorem State.startTimer_dsp (v : Byte) (k : Fin 3) : (s.startTimer v k).dsp = s.dsp := by
  unfold State.startTimer; split <;> rfl
@[simp] theorem State.startTimer_fault (v : Byte) (k : Fin 3) : (s.startTimer v k).fault = s.fault := by
  unfold State.startTimer; split <;> rfl
@[simp] theorem State.startTimer_lifecycle (v : Byte) (k : Fin 3) : (s.startTimer v k).lifecycle = s.lifecycle := by
  unfold State.startTimer; split <;> rfl
@[simp] theorem State.startTimer_muteMask (v : Byte) (k : Fin 3) : (s.startTimer v k).muteMask = s.muteMask := by
  unfold State.startTimer; split <;> rfl
@[simp] theorem State.startTimer_cycles (v : Byte) (k : Fin 3) : (s.startTimer v k).cycles = s.cycles := by
  unfold State.startTimer; split <;> rfl
@[simp] theorem State.startTimer_frame (v : Byte) (k : Fin 3) : (s.startTimer v k).frame = s.frame := by
  unfold State.startTimer; split <;> rfl
@[simp] theorem State.startTimer_io_test (v : Byte) (k : Fin 3) : (s.startTimer v k).io.test = s.io.test := by
  unfold State.startTimer; split <;> rfl
@[simp] theorem State.startTimer_io_control (v : Byte) (k : Fin 3) : (s.startTimer v k).io.control = s.io.control := by
  unfold State.startTimer; split <;> rfl
@[simp] theorem State.startTimer_io_dspAddr (v : Byte) (k : Fin 3) : (s.startTimer v k).io.dspAddr = s.io.dspAddr := by
  unfold State.startTimer; split <;> rfl
@[simp] theorem State.startTimer_io_cpuioIn (v : Byte) (k : Fin 3) : (s.startTimer v k).io.cpuioIn = s.io.cpuioIn := by
  unfold State.startTimer; split <;> rfl
@[simp] theorem State.startTimer_io_cpuioOut (v : Byte) (k : Fin 3) : (s.startTimer v k).io.cpuioOut = s.io.cpuioOut := by
  unfold State.startTimer; split <;> rfl
@[simp] theorem State.startTimer_io_tTarget (v : Byte) (k : Fin 3) : (s.startTimer v k).io.tTarget = s.io.tTarget := by
  unfold State.startTimer; split <;> rfl

@[simp] theorem State.writeControl_cpu (v : Byte) : (s.writeControl v).cpu = s.cpu := by
  simp [State.writeControl]
@[simp] theorem State.writeControl_ram (v : Byte) : (s.writeControl v).ram = s.ram := by
  simp [State.writeControl]
@[simp] theorem State.writeControl_clk (v : Byte) : (s.writeControl v).clk = s.clk := by
  simp [State.writeControl]
@[simp] theorem State.writeControl_dsp (v : Byte) : (s.writeControl v).dsp = s.dsp := by
  simp [State.writeControl]
@[simp] theorem State.writeControl_fault (v : Byte) : (s.writeControl v).fault = s.fault := by
  simp [State.writeControl]
@[simp] theorem State.writeControl_lifecycle (v : Byte) : (s.writeControl v).lifecycle = s.lifecycle := by
  simp [State.writeControl]
@[simp] theorem State.writeControl_muteMask (v : Byte) : (s.writeControl v).muteMask = s.muteMask := by
  simp [State.writeControl]
@[simp] theorem State.writeControl_cycles (v : Byte) : (s.writeControl v).cycles = s.cycles := by
  simp [State.writeControl]
@[simp] theorem State.writeControl_frame (v : Byte) : (s.writeControl v).frame = s.frame := by
  simp [State.writeControl]

@[simp] theorem State.ioWrite_cpu (v : Byte) (r : IoReg) : (s.ioWrite v r).cpu = s.cpu := by
  cases r <;> simp [State.ioWrite] <;> split <;> rfl
@[simp] theorem State.ioWrite_ram (v : Byte) (r : IoReg) : (s.ioWrite v r).ram = s.ram := by
  cases r <;> simp [State.ioWrite] <;> split <;> rfl
@[simp] theorem State.ioWrite_clk (v : Byte) (r : IoReg) : (s.ioWrite v r).clk = s.clk := by
  cases r <;> simp [State.ioWrite] <;> split <;> rfl
@[simp] theorem State.ioWrite_lifecycle (v : Byte) (r : IoReg) : (s.ioWrite v r).lifecycle = s.lifecycle := by
  cases r <;> simp [State.ioWrite] <;> split <;> rfl
@[simp] theorem State.ioWrite_muteMask (v : Byte) (r : IoReg) : (s.ioWrite v r).muteMask = s.muteMask := by
  cases r <;> simp [State.ioWrite] <;> split <;> rfl
@[simp] theorem State.ioWrite_cycles (v : Byte) (r : IoReg) : (s.ioWrite v r).cycles = s.cycles := by
  cases r <;> simp [State.ioWrite] <;> split <;> rfl
@[simp] theorem State.ioWrite_frame (v : Byte) (r : IoReg) : (s.ioWrite v r).frame = s.frame := by
  cases r <;> simp [State.ioWrite] <;> split <;> rfl

@[simp] theorem State.memWrite_cpu (a : Word) (v : Byte) : (s.memWrite a v).cpu = s.cpu := by
  unfold State.memWrite; split <;> simp
@[simp] theorem State.memWrite_clk (a : Word) (v : Byte) : (s.memWrite a v).clk = s.clk := by
  unfold State.memWrite; split <;> simp
@[simp] theorem State.memWrite_lifecycle (a : Word) (v : Byte) : (s.memWrite a v).lifecycle = s.lifecycle := by
  unfold State.memWrite; split <;> simp
@[simp] theorem State.memWrite_muteMask (a : Word) (v : Byte) : (s.memWrite a v).muteMask = s.muteMask := by
  unfold State.memWrite; split <;> simp
@[simp] theorem State.memWrite_cycles (a : Word) (v : Byte) : (s.memWrite a v).cycles = s.cycles := by
  unfold State.memWrite; split <;> simp
@[simp] theorem State.memWrite_frame (a : Word) (v : Byte) : (s.memWrite a v).frame = s.frame := by
  unfold State.memWrite; split <;> simp
@[simp] theorem State.memWrite_ram (a : Word) (v : Byte) : (s.memWrite a v).ram = s.ram.write a.toNat v := by
  unfold State.memWrite; split <;> simp

/-- A store outside the I/O registers changes RAM only. -/
theorem State.memWrite_plain {a : Word} (v : Byte) (h : ioReg a = none) : s.memWrite a v = s.setRam a v := by
  simp [State.memWrite, h]

/-- A CPU write of a DSP register changes the registers and the key-on latch only. -/
theorem Dsp.cpuWrite_eq (d : Dsp) (r : BitVec 7) (v : Byte) :
    d.cpuWrite r v = { d with regs := (d.cpuWrite r v).regs, konLatch := (d.cpuWrite r v).konLatch } := by
  unfold Dsp.cpuWrite; split <;> (try split) <;> rfl

/-! The stack. -/

@[simp] theorem State.push8_cpu (v : Byte) : (s.push8 v).cpu = { s.cpu with sp := s.cpu.sp - 1 } := by
  simp [State.push8, State.setSp]

@[simp] theorem State.push16_cpu (v : Word) : (s.push16 v).cpu = { s.cpu with sp := s.cpu.sp - 1 - 1 } := by
  simp [State.push16]

@[simp] theorem State.drop8_cpu : s.drop8.cpu = { s.cpu with sp := s.cpu.sp + 1 } := by
  simp [State.drop8, State.setSp]

@[simp] theorem State.drop16_cpu : s.drop16.cpu = { s.cpu with sp := s.cpu.sp + 1 + 1 } := by
  simp [State.drop16]

@[simp] theorem State.push8_clk (v : Byte) : (s.push8 v).clk = s.clk := by
  simp [State.push8]
@[simp] theorem State.push16_clk (v : Word) : (s.push16 v).clk = s.clk := by
  simp [State.push16]
@[simp] theorem State.push8_lifecycle (v : Byte) : (s.push8 v).lifecycle = s.lifecycle := by
  simp [State.push8]
@[simp] theorem State.push16_lifecycle (v : Word) : (s.push16 v).lifecycle = s.lifecycle := by
  simp [State.push16]
@[simp] theorem State.push8_muteMask (v : Byte) : (s.push8 v).muteMask = s.muteMask := by
  simp [State.push8]
@[simp] theorem State.push16_muteMask (v : Word) : (s.push16 v).muteMask = s.muteMask := by
  simp [State.push16]
@[simp] theorem State.push8_cycles (v : Byte) : (s.push8 v).cycles = s.cycles := by
  simp [State.push8]
@[simp] theorem State.push16_cycles (v : Word) : (s.push16 v).cycles = s.cycles := by
  simp [State.push16]
@[simp] theorem State.push8_frame (v : Byte) : (s.push8 v).frame = s.frame := by
  simp [State.push8]
@[simp] theorem State.push16_frame (v : Word) : (s.push16 v).frame = s.frame := by
  simp [State.push16]
@[simp] theorem State.drop8_ram : s.drop8.ram = s.ram := by
  simp [State.drop8]
@[simp] theorem State.drop16_ram : s.drop16.ram = s.ram := by
  simp [State.drop16]
@[simp] theorem State.drop8_clk : s.drop8.clk = s.clk := by
  simp [State.drop8]
@[simp] theorem State.drop16_clk : s.drop16.clk = s.clk := by
  simp [State.drop16]
@[simp] theorem State.drop8_dsp : s.drop8.dsp = s.dsp := by
  simp [State.drop8]
@[simp] theorem State.drop16_dsp : s.drop16.dsp = s.dsp := by
  simp [State.drop16]
@[simp] theorem State.drop8_fault : s.drop8.fault = s.fault := by
  simp [State.drop8]
@[simp] theorem State.drop16_fault : s.drop16.fault = s.fault := by
  simp [State.drop16]
@[simp] theorem State.drop8_lifecycle : s.drop8.lifecycle = s.lifecycle := by
  simp [State.drop8]
@[simp] theorem State.drop16_lifecycle : s.drop16.lifecycle = s.lifecycle := by
  simp [State.drop16]
@[simp] theorem State.drop8_muteMask : s.drop8.muteMask = s.muteMask := by
  simp [State.drop8]
@[simp] theorem State.drop16_muteMask : s.drop16.muteMask = s.muteMask := by
  simp [State.drop16]
@[simp] theorem State.drop8_cycles : s.drop8.cycles = s.cycles := by
  simp [State.drop8]
@[simp] theorem State.drop16_cycles : s.drop16.cycles = s.cycles := by
  simp [State.drop16]
@[simp] theorem State.drop8_frame : s.drop8.frame = s.frame := by
  simp [State.drop8]
@[simp] theorem State.drop16_frame : s.drop16.frame = s.frame := by
  simp [State.drop16]

/-- No stack address is an I/O register (R11). -/
theorem ioReg_stack (sp : Byte) : ioReg (stackAddr sp) = none := by
  have h : ∀ v : Byte, ioReg (stackAddr v) = none := by decide
  exact h sp

/-- A direct-page address depends on P only (R10). -/
theorem State.dpAddr_congr {s t : State} (h : s.cpu.psw = t.cpu.psw) (o : Byte) : s.dpAddr o = t.dpAddr o := by
  unfold State.dpAddr State.flag; rw [h]

end Sys2Proof.Machine
end

