-- ==== Sys2Proof/Laws/Dsp.lean ====
section
/-! SUPPORT. The S-DSP's accessors, the arithmetic facts its ranges rest on, and what an echo frame write changes. -/

namespace Sys2Proof.Machine

open Sys2Proof

variable (d : Dsp)

/-! A register store changes that register only, a voice store that voice only. -/

theorem Dsp.reg_setReg (r q : BitVec 7) (v : Byte) : (d.setReg r v).reg q = if q = r then v else d.reg q := by
  simp only [Dsp.setReg, Dsp.reg, Vector.getElem_set, BitVec.toNat_inj]
  by_cases h : q = r
  · simp [h]
  · simp [h, Ne.symm h]

theorem Dsp.voice_setVoice (v w : Fin 8) (x : Voice) : (d.setVoice v x).voice w = if w = v then x else d.voice w := by
  simp only [Dsp.setVoice, Dsp.voice, Fin.getElem_fin, Vector.getElem_set, Fin.val_inj]
  by_cases h : w = v
  · simp [h]
  · simp [h, Ne.symm h]

@[simp] theorem Dsp.reg_setVoice (v : Fin 8) (x : Voice) (r : BitVec 7) : (d.setVoice v x).reg r = d.reg r := rfl
@[simp] theorem Dsp.voice_setReg (r : BitVec 7) (b : Byte) (v : Fin 8) : (d.setReg r b).voice v = d.voice v := rfl
@[simp] theorem Dsp.regs_setVoice (v : Fin 8) (x : Voice) : (d.setVoice v x).regs = d.regs := rfl
@[simp] theorem Dsp.voices_setReg (r : BitVec 7) (b : Byte) : (d.setReg r b).voices = d.voices := rfl
@[simp] theorem Dsp.everyOther_setReg (r : BitVec 7) (b : Byte) : (d.setReg r b).everyOther = d.everyOther := rfl
@[simp] theorem Dsp.everyOther_setVoice (v : Fin 8) (x : Voice) : (d.setVoice v x).everyOther = d.everyOther := rfl
@[simp] theorem Dsp.konLatch_setReg (r : BitVec 7) (b : Byte) : (d.setReg r b).konLatch = d.konLatch := rfl
@[simp] theorem Dsp.konLatch_setVoice (v : Fin 8) (x : Voice) : (d.setVoice v x).konLatch = d.konLatch := rfl
@[simp] theorem Dsp.konNow_setReg (r : BitVec 7) (b : Byte) : (d.setReg r b).konNow = d.konNow := rfl
@[simp] theorem Dsp.konNow_setVoice (v : Fin 8) (x : Voice) : (d.setVoice v x).konNow = d.konNow := rfl
@[simp] theorem Dsp.koffNow_setReg (r : BitVec 7) (b : Byte) : (d.setReg r b).koffNow = d.koffNow := rfl
@[simp] theorem Dsp.koffNow_setVoice (v : Fin 8) (x : Voice) : (d.setVoice v x).koffNow = d.koffNow := rfl
@[simp] theorem Dsp.rateCounter_setReg (r : BitVec 7) (b : Byte) : (d.setReg r b).rateCounter = d.rateCounter := rfl
@[simp] theorem Dsp.rateCounter_setVoice (v : Fin 8) (x : Voice) : (d.setVoice v x).rateCounter = d.rateCounter := rfl
@[simp] theorem Dsp.noise_setReg (r : BitVec 7) (b : Byte) : (d.setReg r b).noise = d.noise := rfl
@[simp] theorem Dsp.noise_setVoice (v : Fin 8) (x : Voice) : (d.setVoice v x).noise = d.noise := rfl
@[simp] theorem Dsp.echoOffset_setReg (r : BitVec 7) (b : Byte) : (d.setReg r b).echoOffset = d.echoOffset := rfl
@[simp] theorem Dsp.echoOffset_setVoice (v : Fin 8) (x : Voice) : (d.setVoice v x).echoOffset = d.echoOffset := rfl
@[simp] theorem Dsp.echoLength_setReg (r : BitVec 7) (b : Byte) : (d.setReg r b).echoLength = d.echoLength := rfl
@[simp] theorem Dsp.echoLength_setVoice (v : Fin 8) (x : Voice) : (d.setVoice v x).echoLength = d.echoLength := rfl
@[simp] theorem Dsp.firHist_setReg (r : BitVec 7) (b : Byte) : (d.setReg r b).firHist = d.firHist := rfl
@[simp] theorem Dsp.firHist_setVoice (v : Fin 8) (x : Voice) : (d.setVoice v x).firHist = d.firHist := rfl

/-! Ranges. -/

/-- The clamp's range (R527). -/
theorem clampLevel_le (n : Int) : clampLevel n ≤ 0x7FF := by
  unfold clampLevel; omega

/-- The even part of a number is even and lies in the number's range (R543). -/
theorem clearBit0_mod (v : Int) : clearBit0 v % 2 = 0 := by
  unfold clearBit0; omega

/-- The rate counter's range is kept (R520). -/
theorem nextRate_lt {c : Nat} (h : c < 30720) : nextRate c < 30720 := by
  unfold nextRate; split <;> omega

/-- The range of `clamp16` (R5). -/
theorem clamp16_bounds (v : Int) : -32768 ≤ clamp16 v ∧ clamp16 v ≤ 32767 := by
  unfold clamp16; omega

/-- `wrap16` is the identity on signed 16-bit numbers (R5). -/
theorem toInt_wrap16 {v : Int} (h : -32768 ≤ v) (h' : v ≤ 32767) : (wrap16 v).toInt = v := by
  unfold wrap16
  rw [BitVec.toInt_ofInt]
  show Int.bmod v 65536 = v
  rw [Int.bmod_eq_of_le] <;> omega

/-- The voice's output is silent at level 0 (R543). -/
@[simp] theorem voiceOut_zero (s : Sample) : voiceOut s 0 = 0 := rfl

/-! The echo frame write (R564, R571). -/

/-- Outside the frame's four bytes the write changes nothing. -/
theorem read_writeFrame {ram : Memory} {a : Word} {f : Frame} {b : Nat} (h0 : b ≠ a.toNat) (h1 : b ≠ (a + 1).toNat)
    (h2 : b ≠ (a + 2).toNat) (h3 : b ≠ (a + 3).toNat) : (writeFrame ram a f).read b = ram.read b := by
  simp only [writeFrame]
  rw [Memory.read_write_ne _ _ h3, Memory.read_write_ne _ _ h2, Memory.read_write_ne _ _ h1, Memory.read_write_ne _ _ h0]

/-- The write keeps the canonical form. -/
theorem wf_writeFrame {ram : Memory} (a : Word) (f : Frame) (h : ram.wf) : (writeFrame ram a f).wf :=
  Memory.wf_write _ (a + 3).isLt (Memory.wf_write _ (a + 2).isLt (Memory.wf_write _ (a + 1).isLt
    (Memory.wf_write _ a.isLt h)))

end Sys2Proof.Machine
end

