-- ==== Sys2Proof/Laws/Decode.lean ====
section
/-! SUPPORT. The bytes of a word and the fields of an `m.b` operand. -/

namespace Sys2Proof

/-- A word as a number: the high byte counts 256. -/
theorem toNat_wordOf (h l : Byte) : (wordOf h l).toNat = h.toNat * 256 + l.toNat := by
  have := Nat.shiftLeft_add_eq_or_of_lt l.isLt h.toNat
  rw [Nat.shiftLeft_eq] at this
  show (h ++ l).toNat = _
  rw [BitVec.toNat_append, Nat.shiftLeft_eq, ← this]

theorem toNat_loByte (w : Word) : (loByte w).toNat = w.toNat % 256 := by
  simp [loByte, BitVec.extractLsb'_toNat]

theorem toNat_hiByte (w : Word) : (hiByte w).toNat = w.toNat / 256 := by
  have := w.isLt
  simp [hiByte, BitVec.extractLsb'_toNat, Nat.shiftRight_eq_div_pow]
  omega

/-- A word is made of its two bytes (R101). -/
@[simp] theorem wordOf_hiByte_loByte (w : Word) : wordOf (hiByte w) (loByte w) = w := by
  apply BitVec.eq_of_toNat_eq
  rw [toNat_wordOf, toNat_loByte, toNat_hiByte]
  omega

@[simp] theorem loByte_wordOf (h l : Byte) : loByte (wordOf h l) = l := by
  have := l.isLt
  apply BitVec.eq_of_toNat_eq
  rw [toNat_loByte, toNat_wordOf]
  omega

@[simp] theorem hiByte_wordOf (h l : Byte) : hiByte (wordOf h l) = h := by
  have := l.isLt
  apply BitVec.eq_of_toNat_eq
  rw [toNat_hiByte, toNat_wordOf]
  omega

/-- The operand word of a fitting `m.b` operand, as a number. -/
theorem toNat_mbitWord {m : Word} {b : Nat} (h : Instr.mbitFits m b = true) :
    (mbitWord m b).toNat = b * 8192 + m.toNat := by
  simp only [Instr.mbitFits, Bool.and_eq_true, decide_eq_true_eq, BitVec.le_def] at h
  have hm : m.toNat < 2 ^ 13 := by have := h.1; simp at this; omega
  have hb : b * 8192 < 65536 := by omega
  unfold mbitWord
  rw [BitVec.toNat_or, BitVec.toNat_ofNat, Nat.mod_eq_of_lt hb]
  have := Nat.shiftLeft_add_eq_or_of_lt hm b
  rw [Nat.shiftLeft_eq] at this
  exact this.symm

/-- The address field comes back (R159). -/
theorem mbitAddress_mbitWord {m : Word} {b : Nat} (h : Instr.mbitFits m b = true) : mbitAddress (mbitWord m b) = m := by
  have hw := toNat_mbitWord h
  simp only [Instr.mbitFits, Bool.and_eq_true, decide_eq_true_eq, BitVec.le_def] at h
  have hm : m.toNat < 8192 := by have := h.1; simp at this; omega
  apply BitVec.eq_of_toNat_eq
  unfold mbitAddress
  rw [BitVec.toNat_and, hw, show (0x1FFF#16).toNat = 2 ^ 13 - 1 from rfl, Nat.and_two_pow_sub_one_eq_mod]
  omega

/-- The bit number comes back (R159). -/
theorem mbitNumber_mbitWord {m : Word} {b : Nat} (h : Instr.mbitFits m b = true) : mbitNumber (mbitWord m b) = b := by
  have hw := toNat_mbitWord h
  simp only [Instr.mbitFits, Bool.and_eq_true, decide_eq_true_eq, BitVec.le_def] at h
  have hm : m.toNat < 8192 := by have := h.1; simp at this; omega
  unfold mbitNumber
  omega

/-- Every word is the operand word of its two fields, and they fit (R159). -/
theorem mbitFits_fields (w : Word) : Instr.mbitFits (mbitAddress w) (mbitNumber w) = true := by
  have hw := w.isLt
  have h : (mbitAddress w).toNat = w.toNat % 8192 := by
    unfold mbitAddress
    rw [BitVec.toNat_and, show (0x1FFF#16).toNat = 2 ^ 13 - 1 from rfl, Nat.and_two_pow_sub_one_eq_mod]
  simp only [Instr.mbitFits, Bool.and_eq_true, decide_eq_true_eq, BitVec.le_def, h]
  refine ⟨?_, ?_⟩
  · show w.toNat % 8192 ≤ 8191; omega
  · show w.toNat / 8192 ≤ 7; omega

theorem mbitWord_fields (w : Word) : mbitWord (mbitAddress w) (mbitNumber w) = w := by
  have h : (mbitAddress w).toNat = w.toNat % 8192 := by
    unfold mbitAddress
    rw [BitVec.toNat_and, show (0x1FFF#16).toNat = 2 ^ 13 - 1 from rfl, Nat.and_two_pow_sub_one_eq_mod]
  apply BitVec.eq_of_toNat_eq
  rw [toNat_mbitWord (mbitFits_fields w), h]
  unfold mbitNumber
  omega

end Sys2Proof
end

