-- ==== Sys2Proof/Laws/Updates.lean ====
section
/-! SUPPORT. The fields after the compound updates: the pair YA, a flag, N and Z, a branch; and what an address outside the
I/O page reads and stores. -/

namespace Sys2Proof.Machine

open Sys2Proof

variable (s : State)

@[simp] theorem State.setYA_cpu_a (w : Word) : (s.setYA w).cpu.a = loByte w := rfl
@[simp] theorem State.setYA_cpu_x (w : Word) : (s.setYA w).cpu.x = s.cpu.x := rfl
@[simp] theorem State.setYA_cpu_y (w : Word) : (s.setYA w).cpu.y = hiByte w := rfl
@[simp] theorem State.setYA_cpu_sp (w : Word) : (s.setYA w).cpu.sp = s.cpu.sp := rfl
@[simp] theorem State.setYA_cpu_pc (w : Word) : (s.setYA w).cpu.pc = s.cpu.pc := rfl
@[simp] theorem State.setYA_cpu_psw (w : Word) : (s.setYA w).cpu.psw = s.cpu.psw := rfl
@[simp] theorem State.setYA_cpu_run (w : Word) : (s.setYA w).cpu.run = s.cpu.run := rfl
@[simp] theorem State.setYA_ram (w : Word) : (s.setYA w).ram = s.ram := rfl
@[simp] theorem State.setYA_io (w : Word) : (s.setYA w).io = s.io := rfl
@[simp] theorem State.setYA_clk (w : Word) : (s.setYA w).clk = s.clk := rfl
@[simp] theorem State.setYA_dsp (w : Word) : (s.setYA w).dsp = s.dsp := rfl
@[simp] theorem State.setYA_fault (w : Word) : (s.setYA w).fault = s.fault := rfl
@[simp] theorem State.setYA_lifecycle (w : Word) : (s.setYA w).lifecycle = s.lifecycle := rfl
@[simp] theorem State.setYA_muteMask (w : Word) : (s.setYA w).muteMask = s.muteMask := rfl
@[simp] theorem State.setYA_cycles (w : Word) : (s.setYA w).cycles = s.cycles := rfl
@[simp] theorem State.setYA_frame (w : Word) : (s.setYA w).frame = s.frame := rfl

@[simp] theorem State.putFlag_cpu_a (f : Flag) (x : Bool) : (s.putFlag f x).cpu.a = s.cpu.a := rfl
@[simp] theorem State.putFlag_cpu_x (f : Flag) (x : Bool) : (s.putFlag f x).cpu.x = s.cpu.x := rfl
@[simp] theorem State.putFlag_cpu_y (f : Flag) (x : Bool) : (s.putFlag f x).cpu.y = s.cpu.y := rfl
@[simp] theorem State.putFlag_cpu_sp (f : Flag) (x : Bool) : (s.putFlag f x).cpu.sp = s.cpu.sp := rfl
@[simp] theorem State.putFlag_cpu_pc (f : Flag) (x : Bool) : (s.putFlag f x).cpu.pc = s.cpu.pc := rfl
@[simp] theorem State.putFlag_cpu_psw (f : Flag) (x : Bool) : (s.putFlag f x).cpu.psw = setFlag s.cpu.psw f x := rfl
@[simp] theorem State.putFlag_cpu_run (f : Flag) (x : Bool) : (s.putFlag f x).cpu.run = s.cpu.run := rfl
@[simp] theorem State.putFlag_ram (f : Flag) (x : Bool) : (s.putFlag f x).ram = s.ram := rfl
@[simp] theorem State.putFlag_io (f : Flag) (x : Bool) : (s.putFlag f x).io = s.io := rfl
@[simp] theorem State.putFlag_clk (f : Flag) (x : Bool) : (s.putFlag f x).clk = s.clk := rfl
@[simp] theorem State.putFlag_dsp (f : Flag) (x : Bool) : (s.putFlag f x).dsp = s.dsp := rfl
@[simp] theorem State.putFlag_fault (f : Flag) (x : Bool) : (s.putFlag f x).fault = s.fault := rfl
@[simp] theorem State.putFlag_lifecycle (f : Flag) (x : Bool) : (s.putFlag f x).lifecycle = s.lifecycle := rfl
@[simp] theorem State.putFlag_muteMask (f : Flag) (x : Bool) : (s.putFlag f x).muteMask = s.muteMask := rfl
@[simp] theorem State.putFlag_cycles (f : Flag) (x : Bool) : (s.putFlag f x).cycles = s.cycles := rfl
@[simp] theorem State.putFlag_frame (f : Flag) (x : Bool) : (s.putFlag f x).frame = s.frame := rfl

@[simp] theorem State.putNZ8_cpu_a (v : Byte) : (s.putNZ8 v).cpu.a = s.cpu.a := rfl
@[simp] theorem State.putNZ8_cpu_x (v : Byte) : (s.putNZ8 v).cpu.x = s.cpu.x := rfl
@[simp] theorem State.putNZ8_cpu_y (v : Byte) : (s.putNZ8 v).cpu.y = s.cpu.y := rfl
@[simp] theorem State.putNZ8_cpu_sp (v : Byte) : (s.putNZ8 v).cpu.sp = s.cpu.sp := rfl
@[simp] theorem State.putNZ8_cpu_pc (v : Byte) : (s.putNZ8 v).cpu.pc = s.cpu.pc := rfl
@[simp] theorem State.putNZ8_cpu_psw (v : Byte) : (s.putNZ8 v).cpu.psw = setNZ8 s.cpu.psw v := rfl
@[simp] theorem State.putNZ8_cpu_run (v : Byte) : (s.putNZ8 v).cpu.run = s.cpu.run := rfl
@[simp] theorem State.putNZ8_ram (v : Byte) : (s.putNZ8 v).ram = s.ram := rfl
@[simp] theorem State.putNZ8_io (v : Byte) : (s.putNZ8 v).io = s.io := rfl
@[simp] theorem State.putNZ8_clk (v : Byte) : (s.putNZ8 v).clk = s.clk := rfl
@[simp] theorem State.putNZ8_dsp (v : Byte) : (s.putNZ8 v).dsp = s.dsp := rfl
@[simp] theorem State.putNZ8_fault (v : Byte) : (s.putNZ8 v).fault = s.fault := rfl
@[simp] theorem State.putNZ8_lifecycle (v : Byte) : (s.putNZ8 v).lifecycle = s.lifecycle := rfl
@[simp] theorem State.putNZ8_muteMask (v : Byte) : (s.putNZ8 v).muteMask = s.muteMask := rfl
@[simp] theorem State.putNZ8_cycles (v : Byte) : (s.putNZ8 v).cycles = s.cycles := rfl
@[simp] theorem State.putNZ8_frame (v : Byte) : (s.putNZ8 v).frame = s.frame := rfl

@[simp] theorem State.putNZ16_cpu_a (v : Word) : (s.putNZ16 v).cpu.a = s.cpu.a := rfl
@[simp] theorem State.putNZ16_cpu_x (v : Word) : (s.putNZ16 v).cpu.x = s.cpu.x := rfl
@[simp] theorem State.putNZ16_cpu_y (v : Word) : (s.putNZ16 v).cpu.y = s.cpu.y := rfl
@[simp] theorem State.putNZ16_cpu_sp (v : Word) : (s.putNZ16 v).cpu.sp = s.cpu.sp := rfl
@[simp] theorem State.putNZ16_cpu_pc (v : Word) : (s.putNZ16 v).cpu.pc = s.cpu.pc := rfl
@[simp] theorem State.putNZ16_cpu_psw (v : Word) : (s.putNZ16 v).cpu.psw = setNZ16 s.cpu.psw v := rfl
@[simp] theorem State.putNZ16_cpu_run (v : Word) : (s.putNZ16 v).cpu.run = s.cpu.run := rfl
@[simp] theorem State.putNZ16_ram (v : Word) : (s.putNZ16 v).ram = s.ram := rfl
@[simp] theorem State.putNZ16_io (v : Word) : (s.putNZ16 v).io = s.io := rfl
@[simp] theorem State.putNZ16_clk (v : Word) : (s.putNZ16 v).clk = s.clk := rfl
@[simp] theorem State.putNZ16_dsp (v : Word) : (s.putNZ16 v).dsp = s.dsp := rfl
@[simp] theorem State.putNZ16_fault (v : Word) : (s.putNZ16 v).fault = s.fault := rfl
@[simp] theorem State.putNZ16_lifecycle (v : Word) : (s.putNZ16 v).lifecycle = s.lifecycle := rfl
@[simp] theorem State.putNZ16_muteMask (v : Word) : (s.putNZ16 v).muteMask = s.muteMask := rfl
@[simp] theorem State.putNZ16_cycles (v : Word) : (s.putNZ16 v).cycles = s.cycles := rfl
@[simp] theorem State.putNZ16_frame (v : Word) : (s.putNZ16 v).frame = s.frame := rfl

@[simp] theorem State.branch_cpu_a (rel : Byte) : (s.branch rel).cpu.a = s.cpu.a := rfl
@[simp] theorem State.branch_cpu_x (rel : Byte) : (s.branch rel).cpu.x = s.cpu.x := rfl
@[simp] theorem State.branch_cpu_y (rel : Byte) : (s.branch rel).cpu.y = s.cpu.y := rfl
@[simp] theorem State.branch_cpu_sp (rel : Byte) : (s.branch rel).cpu.sp = s.cpu.sp := rfl
@[simp] theorem State.branch_cpu_pc (rel : Byte) : (s.branch rel).cpu.pc = s.cpu.pc + sext16 rel := rfl
@[simp] theorem State.branch_cpu_psw (rel : Byte) : (s.branch rel).cpu.psw = s.cpu.psw := rfl
@[simp] theorem State.branch_cpu_run (rel : Byte) : (s.branch rel).cpu.run = s.cpu.run := rfl
@[simp] theorem State.branch_ram (rel : Byte) : (s.branch rel).ram = s.ram := rfl
@[simp] theorem State.branch_io (rel : Byte) : (s.branch rel).io = s.io := rfl
@[simp] theorem State.branch_clk (rel : Byte) : (s.branch rel).clk = s.clk := rfl
@[simp] theorem State.branch_dsp (rel : Byte) : (s.branch rel).dsp = s.dsp := rfl
@[simp] theorem State.branch_fault (rel : Byte) : (s.branch rel).fault = s.fault := rfl
@[simp] theorem State.branch_lifecycle (rel : Byte) : (s.branch rel).lifecycle = s.lifecycle := rfl
@[simp] theorem State.branch_muteMask (rel : Byte) : (s.branch rel).muteMask = s.muteMask := rfl
@[simp] theorem State.branch_cycles (rel : Byte) : (s.branch rel).cycles = s.cycles := rfl
@[simp] theorem State.branch_frame (rel : Byte) : (s.branch rel).frame = s.frame := rfl

@[simp] theorem State.branchIf_cpu_a (taken : Bool) (rel : Byte) (n : Nat) :
    (s.branchIf taken rel n).cpu.a = s.cpu.a := by
  cases taken <;> rfl
@[simp] theorem State.branchIf_cpu_x (taken : Bool) (rel : Byte) (n : Nat) :
    (s.branchIf taken rel n).cpu.x = s.cpu.x := by
  cases taken <;> rfl
@[simp] theorem State.branchIf_cpu_y (taken : Bool) (rel : Byte) (n : Nat) :
    (s.branchIf taken rel n).cpu.y = s.cpu.y := by
  cases taken <;> rfl
@[simp] theorem State.branchIf_cpu_sp (taken : Bool) (rel : Byte) (n : Nat) :
    (s.branchIf taken rel n).cpu.sp = s.cpu.sp := by
  cases taken <;> rfl
@[simp] theorem State.branchIf_cpu_pc (taken : Bool) (rel : Byte) (n : Nat) :
    (s.branchIf taken rel n).cpu.pc = if taken then s.cpu.pc + sext16 rel else s.cpu.pc := by
  cases taken <;> rfl
@[simp] theorem State.branchIf_cpu_psw (taken : Bool) (rel : Byte) (n : Nat) :
    (s.branchIf taken rel n).cpu.psw = s.cpu.psw := by
  cases taken <;> rfl
@[simp] theorem State.branchIf_cpu_run (taken : Bool) (rel : Byte) (n : Nat) :
    (s.branchIf taken rel n).cpu.run = s.cpu.run := by
  cases taken <;> rfl
@[simp] theorem State.branchIf_ram (taken : Bool) (rel : Byte) (n : Nat) :
    (s.branchIf taken rel n).ram = s.ram := by
  cases taken <;> rfl
@[simp] theorem State.branchIf_io (taken : Bool) (rel : Byte) (n : Nat) :
    (s.branchIf taken rel n).io = s.io := by
  cases taken <;> rfl
@[simp] theorem State.branchIf_clk (taken : Bool) (rel : Byte) (n : Nat) :
    (s.branchIf taken rel n).clk = s.clk := by
  cases taken <;> rfl
@[simp] theorem State.branchIf_dsp (taken : Bool) (rel : Byte) (n : Nat) :
    (s.branchIf taken rel n).dsp = s.dsp := by
  cases taken <;> rfl
@[simp] theorem State.branchIf_fault (taken : Bool) (rel : Byte) (n : Nat) :
    (s.branchIf taken rel n).fault = s.fault := by
  cases taken <;> rfl
@[simp] theorem State.branchIf_lifecycle (taken : Bool) (rel : Byte) (n : Nat) :
    (s.branchIf taken rel n).lifecycle = s.lifecycle := by
  cases taken <;> rfl
@[simp] theorem State.branchIf_muteMask (taken : Bool) (rel : Byte) (n : Nat) :
    (s.branchIf taken rel n).muteMask = s.muteMask := by
  cases taken <;> rfl
@[simp] theorem State.branchIf_cycles (taken : Bool) (rel : Byte) (n : Nat) :
    (s.branchIf taken rel n).cycles = if taken then n + 2 else n := by
  cases taken <;> rfl
@[simp] theorem State.branchIf_frame (taken : Bool) (rel : Byte) (n : Nat) :
    (s.branchIf taken rel n).frame = s.frame := by
  cases taken <;> rfl

/-- Reading YA gives back the two registers (R38). -/
@[simp] theorem State.ya_setYA (w : Word) : (s.setYA w).ya = w := by simp [State.ya]

/-- Outside 0x00F0 to 0x00FF there is no I/O register (R105). -/
theorem ioReg_outside {a : Word} (h : a.toNat < 0xF0 ∨ 0xFF < a.toNat) : ioReg a = none := by
  have hl : ioRegs.length = 16 := rfl
  have ha := a.isLt
  unfold ioReg
  rw [List.getElem?_eq_none]
  rw [hl, BitVec.toNat_sub]
  show 16 ≤ (2 ^ 16 - 240 + a.toNat) % 2 ^ 16
  omega

/-- A read outside the I/O page has no side effect (R121). -/
theorem State.touch_plain {a : Word} (h : ioReg a = none) : s.touch a = s := by
  unfold State.touch; rw [h]

/-- A byte of memory is unchanged by a store elsewhere. -/
theorem State.memWrite_read_ne {a : Word} {b : Nat} (v : Byte) (h : b ≠ a.toNat) :
    (s.memWrite a v).ram.read b = s.ram.read b := by
  rw [State.memWrite_ram, Memory.read_write_ne _ _ h]

/-- A stack push is a plain store and a decrement (R11). -/
theorem State.push8_eq (v : Byte) : s.push8 v = (s.setRam (stackAddr s.cpu.sp) v).setSp (s.cpu.sp - 1) := by
  rw [State.push8, State.memWrite_plain s v (ioReg_stack _)]

/-- A stack pop changes SP only (R11). -/
theorem State.drop8_eq : s.drop8 = s.setSp (s.cpu.sp + 1) := by
  rw [State.drop8, State.touch_plain s (ioReg_stack _)]

/-- A stack pop reads RAM (R11): the stack page lies outside the I/O page and the IPL ROM. -/
theorem State.top8_eq : s.top8 = s.ram.read (stackAddr (s.cpu.sp + 1)).toNat := by
  have h : (stackAddr (s.cpu.sp + 1)).toNat < 0xFFC0 := by
    have := (s.cpu.sp + 1).isLt
    rw [stackAddr, toNat_wordOf]
    show 1 * 256 + (s.cpu.sp + 1).toNat < 0xFFC0
    omega
  unfold State.top8 State.peek
  rw [ioReg_stack]
  exact if_neg (fun hc => by omega)

/-- Two stack addresses differ when the pointers do. -/
theorem stackAddr_inj {p q : Byte} : (stackAddr p).toNat = (stackAddr q).toNat ↔ p = q := by
  rw [stackAddr, stackAddr, toNat_wordOf, toNat_wordOf, ← BitVec.toNat_inj]
  omega

/-! The direct page looks at PSW only (R10). -/

@[simp] theorem State.dpAddr_touch (a : Word) (o : Byte) : (s.touch a).dpAddr o = s.dpAddr o :=
  State.dpAddr_congr (by simp) o
@[simp] theorem State.dpAddr_dummyRead (a : Word) (o : Byte) : (s.dummyRead a).dpAddr o = s.dpAddr o :=
  State.dpAddr_congr (by simp) o
@[simp] theorem State.dpAddr_memWrite (a : Word) (v o : Byte) : (s.memWrite a v).dpAddr o = s.dpAddr o :=
  State.dpAddr_congr (by simp) o
@[simp] theorem State.dpAddr_passOperand (o : Byte) : s.passOperand.dpAddr o = s.dpAddr o :=
  State.dpAddr_congr (by simp) o
@[simp] theorem State.dpAddr_readState (m : Mode) (o : Byte) : (m.readState s).dpAddr o = s.dpAddr o :=
  State.dpAddr_congr (by simp) o

/-- The two bytes of a direct-page word lie at different addresses, in the same page (R10). -/
theorem State.dpAddr_next_ne (o : Byte) : (s.dpAddr o).toNat ≠ (s.dpAddr (o + 1)).toNat := by
  intro h
  have h := congrArg loByte (BitVec.eq_of_toNat_eq h)
  simp [State.dpAddr] at h

/-- A register file after an operand byte: PC advanced (R9). -/
theorem State.passOperand_cpu : s.passOperand.cpu = { s.cpu with pc := s.cpu.pc + 1 } := by
  simp [State.passOperand, State.setPc]

end Sys2Proof.Machine
end

