-- ==== Sys2Proof/Laws/Clock.lean ====
section
/-! SUPPORT. What the clock leaves as it is: the timers touch their dividers and counters only, a tick RAM, the DSP and the
frame only; and the clock counts the cycles. -/

namespace Sys2Proof.Machine

open Sys2Proof

variable (s : State)

@[simp] theorem State.timerStage2_cpu (k : Fin 3) : (s.timerStage2 k).cpu = s.cpu := by
  unfold State.timerStage2; split <;> (try split) <;> rfl
@[simp] theorem State.timerStage2_ram (k : Fin 3) : (s.timerStage2 k).ram = s.ram := by
  unfold State.timerStage2; split <;> (try split) <;> rfl
@[simp] theorem State.timerStage2_dsp (k : Fin 3) : (s.timerStage2 k).dsp = s.dsp := by
  unfold State.timerStage2; split <;> (try split) <;> rfl
@[simp] theorem State.timerStage2_fault (k : Fin 3) : (s.timerStage2 k).fault = s.fault := by
  unfold State.timerStage2; split <;> (try split) <;> rfl
@[simp] theorem State.timerStage2_lifecycle (k : Fin 3) : (s.timerStage2 k).lifecycle = s.lifecycle := by
  unfold State.timerStage2; split <;> (try split) <;> rfl
@[simp] theorem State.timerStage2_muteMask (k : Fin 3) : (s.timerStage2 k).muteMask = s.muteMask := by
  unfold State.timerStage2; split <;> (try split) <;> rfl
@[simp] theorem State.timerStage2_cycles (k : Fin 3) : (s.timerStage2 k).cycles = s.cycles := by
  unfold State.timerStage2; split <;> (try split) <;> rfl
@[simp] theorem State.timerStage2_frame (k : Fin 3) : (s.timerStage2 k).frame = s.frame := by
  unfold State.timerStage2; split <;> (try split) <;> rfl
@[simp] theorem State.timerStage2_clk (k : Fin 3) : (s.timerStage2 k).clk = s.clk := by
  unfold State.timerStage2; split <;> (try split) <;> rfl
@[simp] theorem State.timerStage2_io_test (k : Fin 3) : (s.timerStage2 k).io.test = s.io.test := by
  unfold State.timerStage2; split <;> (try split) <;> rfl
@[simp] theorem State.timerStage2_io_control (k : Fin 3) : (s.timerStage2 k).io.control = s.io.control := by
  unfold State.timerStage2; split <;> (try split) <;> rfl
@[simp] theorem State.timerStage2_io_dspAddr (k : Fin 3) : (s.timerStage2 k).io.dspAddr = s.io.dspAddr := by
  unfold State.timerStage2; split <;> (try split) <;> rfl
@[simp] theorem State.timerStage2_io_cpuioIn (k : Fin 3) : (s.timerStage2 k).io.cpuioIn = s.io.cpuioIn := by
  unfold State.timerStage2; split <;> (try split) <;> rfl
@[simp] theorem State.timerStage2_io_cpuioOut (k : Fin 3) : (s.timerStage2 k).io.cpuioOut = s.io.cpuioOut := by
  unfold State.timerStage2; split <;> (try split) <;> rfl
@[simp] theorem State.timerStage2_io_tTarget (k : Fin 3) : (s.timerStage2 k).io.tTarget = s.io.tTarget := by
  unfold State.timerStage2; split <;> (try split) <;> rfl

@[simp] theorem State.timerCycle_cpu : (s.timerCycle).cpu = s.cpu := by
  unfold State.timerCycle; dsimp only; split <;> split <;> simp
@[simp] theorem State.timerCycle_ram : (s.timerCycle).ram = s.ram := by
  unfold State.timerCycle; dsimp only; split <;> split <;> simp
@[simp] theorem State.timerCycle_dsp : (s.timerCycle).dsp = s.dsp := by
  unfold State.timerCycle; dsimp only; split <;> split <;> simp
@[simp] theorem State.timerCycle_fault : (s.timerCycle).fault = s.fault := by
  unfold State.timerCycle; dsimp only; split <;> split <;> simp
@[simp] theorem State.timerCycle_lifecycle : (s.timerCycle).lifecycle = s.lifecycle := by
  unfold State.timerCycle; dsimp only; split <;> split <;> simp
@[simp] theorem State.timerCycle_muteMask : (s.timerCycle).muteMask = s.muteMask := by
  unfold State.timerCycle; dsimp only; split <;> split <;> simp
@[simp] theorem State.timerCycle_cycles : (s.timerCycle).cycles = s.cycles := by
  unfold State.timerCycle; dsimp only; split <;> split <;> simp
@[simp] theorem State.timerCycle_frame : (s.timerCycle).frame = s.frame := by
  unfold State.timerCycle; dsimp only; split <;> split <;> simp
@[simp] theorem State.timerCycle_clk : (s.timerCycle).clk = s.clk := by
  unfold State.timerCycle; dsimp only; split <;> split <;> simp
@[simp] theorem State.timerCycle_io_test : (s.timerCycle).io.test = s.io.test := by
  unfold State.timerCycle; dsimp only; split <;> split <;> simp
@[simp] theorem State.timerCycle_io_control : (s.timerCycle).io.control = s.io.control := by
  unfold State.timerCycle; dsimp only; split <;> split <;> simp
@[simp] theorem State.timerCycle_io_dspAddr : (s.timerCycle).io.dspAddr = s.io.dspAddr := by
  unfold State.timerCycle; dsimp only; split <;> split <;> simp
@[simp] theorem State.timerCycle_io_cpuioIn : (s.timerCycle).io.cpuioIn = s.io.cpuioIn := by
  unfold State.timerCycle; dsimp only; split <;> split <;> simp
@[simp] theorem State.timerCycle_io_cpuioOut : (s.timerCycle).io.cpuioOut = s.io.cpuioOut := by
  unfold State.timerCycle; dsimp only; split <;> split <;> simp
@[simp] theorem State.timerCycle_io_tTarget : (s.timerCycle).io.tTarget = s.io.tTarget := by
  unfold State.timerCycle; dsimp only; split <;> split <;> simp

@[simp] theorem State.dspTick_cpu : (s.dspTick).cpu = s.cpu := by
  rfl
@[simp] theorem State.dspTick_io : (s.dspTick).io = s.io := by
  rfl
@[simp] theorem State.dspTick_clk : (s.dspTick).clk = s.clk := by
  rfl
@[simp] theorem State.dspTick_fault : (s.dspTick).fault = s.fault := by
  rfl
@[simp] theorem State.dspTick_lifecycle : (s.dspTick).lifecycle = s.lifecycle := by
  rfl
@[simp] theorem State.dspTick_muteMask : (s.dspTick).muteMask = s.muteMask := by
  rfl
@[simp] theorem State.dspTick_cycles : (s.dspTick).cycles = s.cycles := by
  rfl

@[simp] theorem State.clockCycle_cpu : (s.clockCycle).cpu = s.cpu := by
  unfold State.clockCycle; dsimp only; split <;> simp
@[simp] theorem State.clockCycle_fault : (s.clockCycle).fault = s.fault := by
  unfold State.clockCycle; dsimp only; split <;> simp
@[simp] theorem State.clockCycle_lifecycle : (s.clockCycle).lifecycle = s.lifecycle := by
  unfold State.clockCycle; dsimp only; split <;> simp
@[simp] theorem State.clockCycle_muteMask : (s.clockCycle).muteMask = s.muteMask := by
  unfold State.clockCycle; dsimp only; split <;> simp
@[simp] theorem State.clockCycle_cycles : (s.clockCycle).cycles = s.cycles := by
  unfold State.clockCycle; dsimp only; split <;> simp
@[simp] theorem State.clockCycle_io_test : (s.clockCycle).io.test = s.io.test := by
  unfold State.clockCycle; dsimp only; split <;> simp
@[simp] theorem State.clockCycle_io_control : (s.clockCycle).io.control = s.io.control := by
  unfold State.clockCycle; dsimp only; split <;> simp
@[simp] theorem State.clockCycle_io_dspAddr : (s.clockCycle).io.dspAddr = s.io.dspAddr := by
  unfold State.clockCycle; dsimp only; split <;> simp
@[simp] theorem State.clockCycle_io_cpuioIn : (s.clockCycle).io.cpuioIn = s.io.cpuioIn := by
  unfold State.clockCycle; dsimp only; split <;> simp
@[simp] theorem State.clockCycle_io_cpuioOut : (s.clockCycle).io.cpuioOut = s.io.cpuioOut := by
  unfold State.clockCycle; dsimp only; split <;> simp
@[simp] theorem State.clockCycle_io_tTarget : (s.clockCycle).io.tTarget = s.io.tTarget := by
  unfold State.clockCycle; dsimp only; split <;> simp

@[simp] theorem State.clockCycle_clk : s.clockCycle.clk = s.clk + 1 := by
  unfold State.clockCycle; dsimp only; split <;> simp

/-- A tick's frame stands in the state exactly on a multiple of 32 (R601, R610). -/
theorem State.clockCycle_frame :
    s.clockCycle.frame.isSome = if (s.clk + 1) % 32 = 0 then true else s.frame.isSome := by
  unfold State.clockCycle; dsimp only
  simp only [State.timerCycle_clk]
  split
  · rfl
  · simp

/-- The canonical form of memory is kept by a tick. -/
theorem State.wf_dspTick (h : s.ram.wf) : s.dspTick.ram.wf := by
  unfold State.dspTick echoAndOutput; dsimp only
  split
  · exact h
  · exact wf_writeFrame _ _ h

/-- The canonical form of memory is kept by a cycle of the clock. -/
theorem State.wf_clockCycle (h : s.ram.wf) : s.clockCycle.ram.wf := by
  unfold State.clockCycle; dsimp only
  split
  · exact State.wf_dspTick _ (by simpa using h)
  · simpa using h

/-! The clock over n cycles, by induction once. -/

/-- What every cycle keeps, n cycles keep. -/
theorem State.runClock_induct {p : State → Prop} (hp : ∀ s, p s → p s.clockCycle) :
    ∀ (n : Nat) (s : State), p s → p (State.runClock n s)
  | 0, _, h => h
  | n + 1, s, h => State.runClock_induct hp n s.clockCycle (hp s h)

@[simp] theorem State.runClock_cpu (n : Nat) : (State.runClock n s).cpu = s.cpu :=
  State.runClock_induct (p := fun t => t.cpu = s.cpu) (fun t h => by simpa using h) n s rfl
@[simp] theorem State.runClock_fault (n : Nat) : (State.runClock n s).fault = s.fault :=
  State.runClock_induct (p := fun t => t.fault = s.fault) (fun t h => by simpa using h) n s rfl
@[simp] theorem State.runClock_lifecycle (n : Nat) : (State.runClock n s).lifecycle = s.lifecycle :=
  State.runClock_induct (p := fun t => t.lifecycle = s.lifecycle) (fun t h => by simpa using h) n s rfl
@[simp] theorem State.runClock_muteMask (n : Nat) : (State.runClock n s).muteMask = s.muteMask :=
  State.runClock_induct (p := fun t => t.muteMask = s.muteMask) (fun t h => by simpa using h) n s rfl
@[simp] theorem State.runClock_cycles (n : Nat) : (State.runClock n s).cycles = s.cycles :=
  State.runClock_induct (p := fun t => t.cycles = s.cycles) (fun t h => by simpa using h) n s rfl
@[simp] theorem State.runClock_io_test (n : Nat) : (State.runClock n s).io.test = s.io.test :=
  State.runClock_induct (p := fun t => t.io.test = s.io.test) (fun t h => by simpa using h) n s rfl
@[simp] theorem State.runClock_io_control (n : Nat) : (State.runClock n s).io.control = s.io.control :=
  State.runClock_induct (p := fun t => t.io.control = s.io.control) (fun t h => by simpa using h) n s rfl
@[simp] theorem State.runClock_io_dspAddr (n : Nat) : (State.runClock n s).io.dspAddr = s.io.dspAddr :=
  State.runClock_induct (p := fun t => t.io.dspAddr = s.io.dspAddr) (fun t h => by simpa using h) n s rfl
@[simp] theorem State.runClock_io_cpuioIn (n : Nat) : (State.runClock n s).io.cpuioIn = s.io.cpuioIn :=
  State.runClock_induct (p := fun t => t.io.cpuioIn = s.io.cpuioIn) (fun t h => by simpa using h) n s rfl
@[simp] theorem State.runClock_io_cpuioOut (n : Nat) : (State.runClock n s).io.cpuioOut = s.io.cpuioOut :=
  State.runClock_induct (p := fun t => t.io.cpuioOut = s.io.cpuioOut) (fun t h => by simpa using h) n s rfl
@[simp] theorem State.runClock_io_tTarget (n : Nat) : (State.runClock n s).io.tTarget = s.io.tTarget :=
  State.runClock_induct (p := fun t => t.io.tTarget = s.io.tTarget) (fun t h => by simpa using h) n s rfl

/-- n cycles advance the clock by n (R601). -/
@[simp] theorem State.runClock_clk (n : Nat) : (State.runClock n s).clk = s.clk + n := by
  induction n generalizing s with
  | zero => rfl
  | succ n ih => rw [State.runClock, ih, State.clockCycle_clk]; omega

/-- The canonical form of memory is kept by n cycles. -/
theorem State.wf_runClock (n : Nat) (h : s.ram.wf) : (State.runClock n s).ram.wf :=
  State.runClock_induct (p := fun t => t.ram.wf) (fun t ht => State.wf_clockCycle t ht) n s h

/-- A bus write keeps the canonical form of memory. -/
theorem State.wf_memWrite (a : Word) (v : Byte) (h : s.ram.wf) : (s.memWrite a v).ram.wf := by
  rw [State.memWrite_ram]; exact Memory.wf_write v a.isLt h

/-- Memory after reset is in canonical form. -/
theorem State.wf_reset : State.reset.ram.wf := ⟨List.Pairwise.nil, fun _ h => nomatch h⟩

end Sys2Proof.Machine
end

