-- ==== Sys2Proof/Laws/Flags.lean ====
section
/-! SUPPORT. Reading a flag of a PSW that was written: the lemmas the flag computations reduce to. -/

namespace Sys2Proof.Machine

open Sys2Proof

/-- The one-bit mask of bit k has exactly bit k set. -/
theorem getLsbD_oneBit (k j : Nat) (hj : j < 8) : (1#8 <<< k).getLsbD j = decide (j = k) := by
  rw [BitVec.getLsbD_shiftLeft, BitVec.getLsbD_one]
  by_cases h : j < k
  · simp [h]; omega
  · simp [h, hj]; omega

/-- A bit of a byte after one bit was written. -/
theorem getLsbD_withBit (v : Byte) (k j : Nat) (x : Bool) (hj : j < 8) :
    (withBit v k x).getLsbD j = if j = k then x else v.getLsbD j := by
  unfold withBit
  cases x
  · rw [if_neg (by decide), BitVec.getLsbD_and, BitVec.getLsbD_not, getLsbD_oneBit k j hj]
    by_cases h : j = k <;> simp [h, hj]
  · rw [if_pos rfl, BitVec.getLsbD_or, getLsbD_oneBit k j hj]
    by_cases h : j = k <;> simp [h]

theorem Flag.bit_lt (f : Flag) : f.bit < 8 := by cases f <;> decide

theorem Flag.bit_inj {f g : Flag} : f.bit = g.bit ↔ f = g := by cases f <;> cases g <;> decide

/-- A flag after a flag was written (R7). -/
@[simp] theorem getFlag_setFlag (psw : Byte) (f g : Flag) (x : Bool) :
    getFlag (setFlag psw f x) g = if g = f then x else getFlag psw g := by
  simp [getFlag, setFlag, getLsbD_withBit _ _ _ _ g.bit_lt, Flag.bit_inj]

/-- SetNZ8 (R12): N, Z, and no other flag. -/
@[simp] theorem getFlag_setNZ8 (psw v : Byte) (g : Flag) :
    getFlag (setNZ8 psw v) g = if g = .z then v == 0 else if g = .n then v.getLsbD 7 else getFlag psw g := by
  simp [setNZ8]

/-- SetNZ16 (R12): N, Z, and no other flag. -/
@[simp] theorem getFlag_setNZ16 (psw : Byte) (v : Word) (g : Flag) :
    getFlag (setNZ16 psw v) g = if g = .z then v == 0 else if g = .n then v.getLsbD 15 else getFlag psw g := by
  simp [setNZ16]

end Sys2Proof.Machine
end

