-- ==== Sys2Proof/Laws/PerInstr.lean ====
section
/-! SUPPORT. Per-instruction laws: family EncodeFormat: an instruction's bytes begin with an opcode whose format has their
number (R151 to R160, R165). -/

namespace Sys2Proof.Laws.EncodeFormat

open Sys2Proof

/-- The bytes begin with an opcode byte, and that opcode's format has the length of the bytes. -/
def Statement (i : Instr) : Prop :=
  ∃ (op : Byte) (operands : List Byte) (f : Format),
    encode i = op :: operands ∧ formatOf op = some f ∧ f.length = operands.length + 1

theorem set1B0 (d : Byte) : Statement (.set1B0 d) := ⟨_, _, _, rfl, rfl, rfl⟩
theorem bbsB0 (d : Byte) (rel : Byte) : Statement (.bbsB0 d rel) := ⟨_, _, _, rfl, rfl, rfl⟩
theorem orADp (d : Byte) : Statement (.orADp d) := ⟨_, _, _, rfl, rfl, rfl⟩
theorem orAAbs (a : Word) : Statement (.orAAbs a) := ⟨_, _, _, rfl, rfl, rfl⟩
theorem orAIndX (d : Byte) : Statement (.orAIndX d) := ⟨_, _, _, rfl, rfl, rfl⟩
theorem orAImm (i : Byte) : Statement (.orAImm i) := ⟨_, _, _, rfl, rfl, rfl⟩
theorem orDpDp (ds : Byte) (dd : Byte) : Statement (.orDpDp ds dd) := ⟨_, _, _, rfl, rfl, rfl⟩
theorem or1CMb (m : Word) (b : Nat) : Statement (.or1CMb m b) := ⟨_, _, _, rfl, rfl, rfl⟩
theorem aslDp (d : Byte) : Statement (.aslDp d) := ⟨_, _, _, rfl, rfl, rfl⟩
theorem aslAbs (a : Word) : Statement (.aslAbs a) := ⟨_, _, _, rfl, rfl, rfl⟩
theorem tset1Abs (a : Word) : Statement (.tset1Abs a) := ⟨_, _, _, rfl, rfl, rfl⟩
theorem bpl (rel : Byte) : Statement (.bpl rel) := ⟨_, _, _, rfl, rfl, rfl⟩
theorem clr1B0 (d : Byte) : Statement (.clr1B0 d) := ⟨_, _, _, rfl, rfl, rfl⟩
theorem bbcB0 (d : Byte) (rel : Byte) : Statement (.bbcB0 d rel) := ⟨_, _, _, rfl, rfl, rfl⟩
theorem orADpX (d : Byte) : Statement (.orADpX d) := ⟨_, _, _, rfl, rfl, rfl⟩
theorem orAAbsX (a : Word) : Statement (.orAAbsX a) := ⟨_, _, _, rfl, rfl, rfl⟩
theorem orAAbsY (a : Word) : Statement (.orAAbsY a) := ⟨_, _, _, rfl, rfl, rfl⟩
theorem orAIndY (d : Byte) : Statement (.orAIndY d) := ⟨_, _, _, rfl, rfl, rfl⟩
theorem orDpImm (i : Byte) (d : Byte) : Statement (.orDpImm i d) := ⟨_, _, _, rfl, rfl, rfl⟩
theorem decwDp (d : Byte) : Statement (.decwDp d) := ⟨_, _, _, rfl, rfl, rfl⟩
theorem aslDpX (d : Byte) : Statement (.aslDpX d) := ⟨_, _, _, rfl, rfl, rfl⟩
theorem cmpXAbs (a : Word) : Statement (.cmpXAbs a) := ⟨_, _, _, rfl, rfl, rfl⟩
theorem jmpIndAbsX (a : Word) : Statement (.jmpIndAbsX a) := ⟨_, _, _, rfl, rfl, rfl⟩
theorem set1B1 (d : Byte) : Statement (.set1B1 d) := ⟨_, _, _, rfl, rfl, rfl⟩
theorem bbsB1 (d : Byte) (rel : Byte) : Statement (.bbsB1 d rel) := ⟨_, _, _, rfl, rfl, rfl⟩
theorem andADp (d : Byte) : Statement (.andADp d) := ⟨_, _, _, rfl, rfl, rfl⟩
theorem andAAbs (a : Word) : Statement (.andAAbs a) := ⟨_, _, _, rfl, rfl, rfl⟩
theorem andAIndX (d : Byte) : Statement (.andAIndX d) := ⟨_, _, _, rfl, rfl, rfl⟩
theorem andAImm (i : Byte) : Statement (.andAImm i) := ⟨_, _, _, rfl, rfl, rfl⟩
theorem andDpDp (ds : Byte) (dd : Byte) : Statement (.andDpDp ds dd) := ⟨_, _, _, rfl, rfl, rfl⟩
theorem or1CNotMb (m : Word) (b : Nat) : Statement (.or1CNotMb m b) := ⟨_, _, _, rfl, rfl, rfl⟩
theorem rolDp (d : Byte) : Statement (.rolDp d) := ⟨_, _, _, rfl, rfl, rfl⟩
theorem rolAbs (a : Word) : Statement (.rolAbs a) := ⟨_, _, _, rfl, rfl, rfl⟩
theorem cbneDp (d : Byte) (rel : Byte) : Statement (.cbneDp d rel) := ⟨_, _, _, rfl, rfl, rfl⟩
theorem bra (rel : Byte) : Statement (.bra rel) := ⟨_, _, _, rfl, rfl, rfl⟩
theorem bmi (rel : Byte) : Statement (.bmi rel) := ⟨_, _, _, rfl, rfl, rfl⟩
theorem clr1B1 (d : Byte) : Statement (.clr1B1 d) := ⟨_, _, _, rfl, rfl, rfl⟩
theorem bbcB1 (d : Byte) (rel : Byte) : Statement (.bbcB1 d rel) := ⟨_, _, _, rfl, rfl, rfl⟩
theorem andADpX (d : Byte) : Statement (.andADpX d) := ⟨_, _, _, rfl, rfl, rfl⟩
theorem andAAbsX (a : Word) : Statement (.andAAbsX a) := ⟨_, _, _, rfl, rfl, rfl⟩
theorem andAAbsY (a : Word) : Statement (.andAAbsY a) := ⟨_, _, _, rfl, rfl, rfl⟩
theorem andAIndY (d : Byte) : Statement (.andAIndY d) := ⟨_, _, _, rfl, rfl, rfl⟩
theorem andDpImm (i : Byte) (d : Byte) : Statement (.andDpImm i d) := ⟨_, _, _, rfl, rfl, rfl⟩
theorem incwDp (d : Byte) : Statement (.incwDp d) := ⟨_, _, _, rfl, rfl, rfl⟩
theorem rolDpX (d : Byte) : Statement (.rolDpX d) := ⟨_, _, _, rfl, rfl, rfl⟩
theorem cmpXDp (d : Byte) : Statement (.cmpXDp d) := ⟨_, _, _, rfl, rfl, rfl⟩
theorem callAbs (a : Word) : Statement (.callAbs a) := ⟨_, _, _, rfl, rfl, rfl⟩
theorem set1B2 (d : Byte) : Statement (.set1B2 d) := ⟨_, _, _, rfl, rfl, rfl⟩
theorem bbsB2 (d : Byte) (rel : Byte) : Statement (.bbsB2 d rel) := ⟨_, _, _, rfl, rfl, rfl⟩
theorem eorADp (d : Byte) : Statement (.eorADp d) := ⟨_, _, _, rfl, rfl, rfl⟩
theorem eorAAbs (a : Word) : Statement (.eorAAbs a) := ⟨_, _, _, rfl, rfl, rfl⟩
theorem eorAIndX (d : Byte) : Statement (.eorAIndX d) := ⟨_, _, _, rfl, rfl, rfl⟩
theorem eorAImm (i : Byte) : Statement (.eorAImm i) := ⟨_, _, _, rfl, rfl, rfl⟩
theorem eorDpDp (ds : Byte) (dd : Byte) : Statement (.eorDpDp ds dd) := ⟨_, _, _, rfl, rfl, rfl⟩
theorem and1CMb (m : Word) (b : Nat) : Statement (.and1CMb m b) := ⟨_, _, _, rfl, rfl, rfl⟩
theorem lsrDp (d : Byte) : Statement (.lsrDp d) := ⟨_, _, _, rfl, rfl, rfl⟩
theorem lsrAbs (a : Word) : Statement (.lsrAbs a) := ⟨_, _, _, rfl, rfl, rfl⟩
theorem tclr1Abs (a : Word) : Statement (.tclr1Abs a) := ⟨_, _, _, rfl, rfl, rfl⟩
theorem pcall (u : Byte) : Statement (.pcall u) := ⟨_, _, _, rfl, rfl, rfl⟩
theorem bvc (rel : Byte) : Statement (.bvc rel) := ⟨_, _, _, rfl, rfl, rfl⟩
theorem clr1B2 (d : Byte) : Statement (.clr1B2 d) := ⟨_, _, _, rfl, rfl, rfl⟩
theorem bbcB2 (d : Byte) (rel : Byte) : Statement (.bbcB2 d rel) := ⟨_, _, _, rfl, rfl, rfl⟩
theorem eorADpX (d : Byte) : Statement (.eorADpX d) := ⟨_, _, _, rfl, rfl, rfl⟩
theorem eorAAbsX (a : Word) : Statement (.eorAAbsX a) := ⟨_, _, _, rfl, rfl, rfl⟩
theorem eorAAbsY (a : Word) : Statement (.eorAAbsY a) := ⟨_, _, _, rfl, rfl, rfl⟩
theorem eorAIndY (d : Byte) : Statement (.eorAIndY d) := ⟨_, _, _, rfl, rfl, rfl⟩
theorem eorDpImm (i : Byte) (d : Byte) : Statement (.eorDpImm i d) := ⟨_, _, _, rfl, rfl, rfl⟩
theorem cmpwYADp (d : Byte) : Statement (.cmpwYADp d) := ⟨_, _, _, rfl, rfl, rfl⟩
theorem lsrDpX (d : Byte) : Statement (.lsrDpX d) := ⟨_, _, _, rfl, rfl, rfl⟩
theorem cmpYAbs (a : Word) : Statement (.cmpYAbs a) := ⟨_, _, _, rfl, rfl, rfl⟩
theorem jmpAbs (a : Word) : Statement (.jmpAbs a) := ⟨_, _, _, rfl, rfl, rfl⟩
theorem set1B3 (d : Byte) : Statement (.set1B3 d) := ⟨_, _, _, rfl, rfl, rfl⟩
theorem bbsB3 (d : Byte) (rel : Byte) : Statement (.bbsB3 d rel) := ⟨_, _, _, rfl, rfl, rfl⟩
theorem cmpADp (d : Byte) : Statement (.cmpADp d) := ⟨_, _, _, rfl, rfl, rfl⟩
theorem cmpAAbs (a : Word) : Statement (.cmpAAbs a) := ⟨_, _, _, rfl, rfl, rfl⟩
theorem cmpAIndX (d : Byte) : Statement (.cmpAIndX d) := ⟨_, _, _, rfl, rfl, rfl⟩
theorem cmpAImm (i : Byte) : Statement (.cmpAImm i) := ⟨_, _, _, rfl, rfl, rfl⟩
theorem cmpDpDp (ds : Byte) (dd : Byte) : Statement (.cmpDpDp ds dd) := ⟨_, _, _, rfl, rfl, rfl⟩
theorem and1CNotMb (m : Word) (b : Nat) : Statement (.and1CNotMb m b) := ⟨_, _, _, rfl, rfl, rfl⟩
theorem rorDp (d : Byte) : Statement (.rorDp d) := ⟨_, _, _, rfl, rfl, rfl⟩
theorem rorAbs (a : Word) : Statement (.rorAbs a) := ⟨_, _, _, rfl, rfl, rfl⟩
theorem dbnzDp (d : Byte) (rel : Byte) : Statement (.dbnzDp d rel) := ⟨_, _, _, rfl, rfl, rfl⟩
theorem bvs (rel : Byte) : Statement (.bvs rel) := ⟨_, _, _, rfl, rfl, rfl⟩
theorem clr1B3 (d : Byte) : Statement (.clr1B3 d) := ⟨_, _, _, rfl, rfl, rfl⟩
theorem bbcB3 (d : Byte) (rel : Byte) : Statement (.bbcB3 d rel) := ⟨_, _, _, rfl, rfl, rfl⟩
theorem cmpADpX (d : Byte) : Statement (.cmpADpX d) := ⟨_, _, _, rfl, rfl, rfl⟩
theorem cmpAAbsX (a : Word) : Statement (.cmpAAbsX a) := ⟨_, _, _, rfl, rfl, rfl⟩
theorem cmpAAbsY (a : Word) : Statement (.cmpAAbsY a) := ⟨_, _, _, rfl, rfl, rfl⟩
theorem cmpAIndY (d : Byte) : Statement (.cmpAIndY d) := ⟨_, _, _, rfl, rfl, rfl⟩
theorem cmpDpImm (i : Byte) (d : Byte) : Statement (.cmpDpImm i d) := ⟨_, _, _, rfl, rfl, rfl⟩
theorem addwYADp (d : Byte) : Statement (.addwYADp d) := ⟨_, _, _, rfl, rfl, rfl⟩
theorem rorDpX (d : Byte) : Statement (.rorDpX d) := ⟨_, _, _, rfl, rfl, rfl⟩
theorem cmpYDp (d : Byte) : Statement (.cmpYDp d) := ⟨_, _, _, rfl, rfl, rfl⟩
theorem set1B4 (d : Byte) : Statement (.set1B4 d) := ⟨_, _, _, rfl, rfl, rfl⟩
theorem bbsB4 (d : Byte) (rel : Byte) : Statement (.bbsB4 d rel) := ⟨_, _, _, rfl, rfl, rfl⟩
theorem adcADp (d : Byte) : Statement (.adcADp d) := ⟨_, _, _, rfl, rfl, rfl⟩
theorem adcAAbs (a : Word) : Statement (.adcAAbs a) := ⟨_, _, _, rfl, rfl, rfl⟩
theorem adcAIndX (d : Byte) : Statement (.adcAIndX d) := ⟨_, _, _, rfl, rfl, rfl⟩
theorem adcAImm (i : Byte) : Statement (.adcAImm i) := ⟨_, _, _, rfl, rfl, rfl⟩
theorem adcDpDp (ds : Byte) (dd : Byte) : Statement (.adcDpDp ds dd) := ⟨_, _, _, rfl, rfl, rfl⟩
theorem eor1CMb (m : Word) (b : Nat) : Statement (.eor1CMb m b) := ⟨_, _, _, rfl, rfl, rfl⟩
theorem decDp (d : Byte) : Statement (.decDp d) := ⟨_, _, _, rfl, rfl, rfl⟩
theorem decAbs (a : Word) : Statement (.decAbs a) := ⟨_, _, _, rfl, rfl, rfl⟩
theorem movYImm (i : Byte) : Statement (.movYImm i) := ⟨_, _, _, rfl, rfl, rfl⟩
theorem movDpImm (i : Byte) (d : Byte) : Statement (.movDpImm i d) := ⟨_, _, _, rfl, rfl, rfl⟩
theorem bcc (rel : Byte) : Statement (.bcc rel) := ⟨_, _, _, rfl, rfl, rfl⟩
theorem clr1B4 (d : Byte) : Statement (.clr1B4 d) := ⟨_, _, _, rfl, rfl, rfl⟩
theorem bbcB4 (d : Byte) (rel : Byte) : Statement (.bbcB4 d rel) := ⟨_, _, _, rfl, rfl, rfl⟩
theorem adcADpX (d : Byte) : Statement (.adcADpX d) := ⟨_, _, _, rfl, rfl, rfl⟩
theorem adcAAbsX (a : Word) : Statement (.adcAAbsX a) := ⟨_, _, _, rfl, rfl, rfl⟩
theorem adcAAbsY (a : Word) : Statement (.adcAAbsY a) := ⟨_, _, _, rfl, rfl, rfl⟩
theorem adcAIndY (d : Byte) : Statement (.adcAIndY d) := ⟨_, _, _, rfl, rfl, rfl⟩
theorem adcDpImm (i : Byte) (d : Byte) : Statement (.adcDpImm i d) := ⟨_, _, _, rfl, rfl, rfl⟩
theorem subwYADp (d : Byte) : Statement (.subwYADp d) := ⟨_, _, _, rfl, rfl, rfl⟩
theorem decDpX (d : Byte) : Statement (.decDpX d) := ⟨_, _, _, rfl, rfl, rfl⟩
theorem set1B5 (d : Byte) : Statement (.set1B5 d) := ⟨_, _, _, rfl, rfl, rfl⟩
theorem bbsB5 (d : Byte) (rel : Byte) : Statement (.bbsB5 d rel) := ⟨_, _, _, rfl, rfl, rfl⟩
theorem sbcADp (d : Byte) : Statement (.sbcADp d) := ⟨_, _, _, rfl, rfl, rfl⟩
theorem sbcAAbs (a : Word) : Statement (.sbcAAbs a) := ⟨_, _, _, rfl, rfl, rfl⟩
theorem sbcAIndX (d : Byte) : Statement (.sbcAIndX d) := ⟨_, _, _, rfl, rfl, rfl⟩
theorem sbcAImm (i : Byte) : Statement (.sbcAImm i) := ⟨_, _, _, rfl, rfl, rfl⟩
theorem sbcDpDp (ds : Byte) (dd : Byte) : Statement (.sbcDpDp ds dd) := ⟨_, _, _, rfl, rfl, rfl⟩
theorem mov1CMb (m : Word) (b : Nat) : Statement (.mov1CMb m b) := ⟨_, _, _, rfl, rfl, rfl⟩
theorem incDp (d : Byte) : Statement (.incDp d) := ⟨_, _, _, rfl, rfl, rfl⟩
theorem incAbs (a : Word) : Statement (.incAbs a) := ⟨_, _, _, rfl, rfl, rfl⟩
theorem cmpYImm (i : Byte) : Statement (.cmpYImm i) := ⟨_, _, _, rfl, rfl, rfl⟩
theorem bcs (rel : Byte) : Statement (.bcs rel) := ⟨_, _, _, rfl, rfl, rfl⟩
theorem clr1B5 (d : Byte) : Statement (.clr1B5 d) := ⟨_, _, _, rfl, rfl, rfl⟩
theorem bbcB5 (d : Byte) (rel : Byte) : Statement (.bbcB5 d rel) := ⟨_, _, _, rfl, rfl, rfl⟩
theorem sbcADpX (d : Byte) : Statement (.sbcADpX d) := ⟨_, _, _, rfl, rfl, rfl⟩
theorem sbcAAbsX (a : Word) : Statement (.sbcAAbsX a) := ⟨_, _, _, rfl, rfl, rfl⟩
theorem sbcAAbsY (a : Word) : Statement (.sbcAAbsY a) := ⟨_, _, _, rfl, rfl, rfl⟩
theorem sbcAIndY (d : Byte) : Statement (.sbcAIndY d) := ⟨_, _, _, rfl, rfl, rfl⟩
theorem sbcDpImm (i : Byte) (d : Byte) : Statement (.sbcDpImm i d) := ⟨_, _, _, rfl, rfl, rfl⟩
theorem movwYADp (d : Byte) : Statement (.movwYADp d) := ⟨_, _, _, rfl, rfl, rfl⟩
theorem incDpX (d : Byte) : Statement (.incDpX d) := ⟨_, _, _, rfl, rfl, rfl⟩
theorem set1B6 (d : Byte) : Statement (.set1B6 d) := ⟨_, _, _, rfl, rfl, rfl⟩
theorem bbsB6 (d : Byte) (rel : Byte) : Statement (.bbsB6 d rel) := ⟨_, _, _, rfl, rfl, rfl⟩
theorem movDpA (d : Byte) : Statement (.movDpA d) := ⟨_, _, _, rfl, rfl, rfl⟩
theorem movAbsA (a : Word) : Statement (.movAbsA a) := ⟨_, _, _, rfl, rfl, rfl⟩
theorem movIndXA (d : Byte) : Statement (.movIndXA d) := ⟨_, _, _, rfl, rfl, rfl⟩
theorem cmpXImm (i : Byte) : Statement (.cmpXImm i) := ⟨_, _, _, rfl, rfl, rfl⟩
theorem movAbsX (a : Word) : Statement (.movAbsX a) := ⟨_, _, _, rfl, rfl, rfl⟩
theorem mov1MbC (m : Word) (b : Nat) : Statement (.mov1MbC m b) := ⟨_, _, _, rfl, rfl, rfl⟩
theorem movDpY (d : Byte) : Statement (.movDpY d) := ⟨_, _, _, rfl, rfl, rfl⟩
theorem movAbsY (a : Word) : Statement (.movAbsY a) := ⟨_, _, _, rfl, rfl, rfl⟩
theorem movXImm (i : Byte) : Statement (.movXImm i) := ⟨_, _, _, rfl, rfl, rfl⟩
theorem bne (rel : Byte) : Statement (.bne rel) := ⟨_, _, _, rfl, rfl, rfl⟩
theorem clr1B6 (d : Byte) : Statement (.clr1B6 d) := ⟨_, _, _, rfl, rfl, rfl⟩
theorem bbcB6 (d : Byte) (rel : Byte) : Statement (.bbcB6 d rel) := ⟨_, _, _, rfl, rfl, rfl⟩
theorem movDpXA (d : Byte) : Statement (.movDpXA d) := ⟨_, _, _, rfl, rfl, rfl⟩
theorem movAbsXA (a : Word) : Statement (.movAbsXA a) := ⟨_, _, _, rfl, rfl, rfl⟩
theorem movAbsYA (a : Word) : Statement (.movAbsYA a) := ⟨_, _, _, rfl, rfl, rfl⟩
theorem movIndYA (d : Byte) : Statement (.movIndYA d) := ⟨_, _, _, rfl, rfl, rfl⟩
theorem movDpX (d : Byte) : Statement (.movDpX d) := ⟨_, _, _, rfl, rfl, rfl⟩
theorem movDpYX (d : Byte) : Statement (.movDpYX d) := ⟨_, _, _, rfl, rfl, rfl⟩
theorem movwDpYA (d : Byte) : Statement (.movwDpYA d) := ⟨_, _, _, rfl, rfl, rfl⟩
theorem movDpXY (d : Byte) : Statement (.movDpXY d) := ⟨_, _, _, rfl, rfl, rfl⟩
theorem cbneDpX (d : Byte) (rel : Byte) : Statement (.cbneDpX d rel) := ⟨_, _, _, rfl, rfl, rfl⟩
theorem set1B7 (d : Byte) : Statement (.set1B7 d) := ⟨_, _, _, rfl, rfl, rfl⟩
theorem bbsB7 (d : Byte) (rel : Byte) : Statement (.bbsB7 d rel) := ⟨_, _, _, rfl, rfl, rfl⟩
theorem movADp (d : Byte) : Statement (.movADp d) := ⟨_, _, _, rfl, rfl, rfl⟩
theorem movAAbs (a : Word) : Statement (.movAAbs a) := ⟨_, _, _, rfl, rfl, rfl⟩
theorem movAIndX (d : Byte) : Statement (.movAIndX d) := ⟨_, _, _, rfl, rfl, rfl⟩
theorem movAImm (i : Byte) : Statement (.movAImm i) := ⟨_, _, _, rfl, rfl, rfl⟩
theorem movXAbs (a : Word) : Statement (.movXAbs a) := ⟨_, _, _, rfl, rfl, rfl⟩
theorem not1Mb (m : Word) (b : Nat) : Statement (.not1Mb m b) := ⟨_, _, _, rfl, rfl, rfl⟩
theorem movYDp (d : Byte) : Statement (.movYDp d) := ⟨_, _, _, rfl, rfl, rfl⟩
theorem movYAbs (a : Word) : Statement (.movYAbs a) := ⟨_, _, _, rfl, rfl, rfl⟩
theorem beq (rel : Byte) : Statement (.beq rel) := ⟨_, _, _, rfl, rfl, rfl⟩
theorem clr1B7 (d : Byte) : Statement (.clr1B7 d) := ⟨_, _, _, rfl, rfl, rfl⟩
theorem bbcB7 (d : Byte) (rel : Byte) : Statement (.bbcB7 d rel) := ⟨_, _, _, rfl, rfl, rfl⟩
theorem movADpX (d : Byte) : Statement (.movADpX d) := ⟨_, _, _, rfl, rfl, rfl⟩
theorem movAAbsX (a : Word) : Statement (.movAAbsX a) := ⟨_, _, _, rfl, rfl, rfl⟩
theorem movAAbsY (a : Word) : Statement (.movAAbsY a) := ⟨_, _, _, rfl, rfl, rfl⟩
theorem movAIndY (d : Byte) : Statement (.movAIndY d) := ⟨_, _, _, rfl, rfl, rfl⟩
theorem movXDp (d : Byte) : Statement (.movXDp d) := ⟨_, _, _, rfl, rfl, rfl⟩
theorem movXDpY (d : Byte) : Statement (.movXDpY d) := ⟨_, _, _, rfl, rfl, rfl⟩
theorem movDpDp (ds : Byte) (dd : Byte) : Statement (.movDpDp ds dd) := ⟨_, _, _, rfl, rfl, rfl⟩
theorem movYDpX (d : Byte) : Statement (.movYDpX d) := ⟨_, _, _, rfl, rfl, rfl⟩
theorem dbnzY (rel : Byte) : Statement (.dbnzY rel) := ⟨_, _, _, rfl, rfl, rfl⟩
theorem nop : Statement (.nop) := ⟨_, _, _, rfl, rfl, rfl⟩
theorem tcall0 : Statement (.tcall0) := ⟨_, _, _, rfl, rfl, rfl⟩
theorem orAIx : Statement (.orAIx) := ⟨_, _, _, rfl, rfl, rfl⟩
theorem pushPsw : Statement (.pushPsw) := ⟨_, _, _, rfl, rfl, rfl⟩
theorem brk : Statement (.brk) := ⟨_, _, _, rfl, rfl, rfl⟩
theorem tcall1 : Statement (.tcall1) := ⟨_, _, _, rfl, rfl, rfl⟩
theorem orIxIy : Statement (.orIxIy) := ⟨_, _, _, rfl, rfl, rfl⟩
theorem aslA : Statement (.aslA) := ⟨_, _, _, rfl, rfl, rfl⟩
theorem decX : Statement (.decX) := ⟨_, _, _, rfl, rfl, rfl⟩
theorem clrp : Statement (.clrp) := ⟨_, _, _, rfl, rfl, rfl⟩
theorem tcall2 : Statement (.tcall2) := ⟨_, _, _, rfl, rfl, rfl⟩
theorem andAIx : Statement (.andAIx) := ⟨_, _, _, rfl, rfl, rfl⟩
theorem pushA : Statement (.pushA) := ⟨_, _, _, rfl, rfl, rfl⟩
theorem tcall3 : Statement (.tcall3) := ⟨_, _, _, rfl, rfl, rfl⟩
theorem andIxIy : Statement (.andIxIy) := ⟨_, _, _, rfl, rfl, rfl⟩
theorem rolA : Statement (.rolA) := ⟨_, _, _, rfl, rfl, rfl⟩
theorem incX : Statement (.incX) := ⟨_, _, _, rfl, rfl, rfl⟩
theorem setp : Statement (.setp) := ⟨_, _, _, rfl, rfl, rfl⟩
theorem tcall4 : Statement (.tcall4) := ⟨_, _, _, rfl, rfl, rfl⟩
theorem eorAIx : Statement (.eorAIx) := ⟨_, _, _, rfl, rfl, rfl⟩
theorem pushX : Statement (.pushX) := ⟨_, _, _, rfl, rfl, rfl⟩
theorem tcall5 : Statement (.tcall5) := ⟨_, _, _, rfl, rfl, rfl⟩
theorem eorIxIy : Statement (.eorIxIy) := ⟨_, _, _, rfl, rfl, rfl⟩
theorem lsrA : Statement (.lsrA) := ⟨_, _, _, rfl, rfl, rfl⟩
theorem movXA : Statement (.movXA) := ⟨_, _, _, rfl, rfl, rfl⟩
theorem clrc : Statement (.clrc) := ⟨_, _, _, rfl, rfl, rfl⟩
theorem tcall6 : Statement (.tcall6) := ⟨_, _, _, rfl, rfl, rfl⟩
theorem cmpAIx : Statement (.cmpAIx) := ⟨_, _, _, rfl, rfl, rfl⟩
theorem pushY : Statement (.pushY) := ⟨_, _, _, rfl, rfl, rfl⟩
theorem ret : Statement (.ret) := ⟨_, _, _, rfl, rfl, rfl⟩
theorem tcall7 : Statement (.tcall7) := ⟨_, _, _, rfl, rfl, rfl⟩
theorem cmpIxIy : Statement (.cmpIxIy) := ⟨_, _, _, rfl, rfl, rfl⟩
theorem rorA : Statement (.rorA) := ⟨_, _, _, rfl, rfl, rfl⟩
theorem movAX : Statement (.movAX) := ⟨_, _, _, rfl, rfl, rfl⟩
theorem reti : Statement (.reti) := ⟨_, _, _, rfl, rfl, rfl⟩
theorem setc : Statement (.setc) := ⟨_, _, _, rfl, rfl, rfl⟩
theorem tcall8 : Statement (.tcall8) := ⟨_, _, _, rfl, rfl, rfl⟩
theorem adcAIx : Statement (.adcAIx) := ⟨_, _, _, rfl, rfl, rfl⟩
theorem popPsw : Statement (.popPsw) := ⟨_, _, _, rfl, rfl, rfl⟩
theorem tcall9 : Statement (.tcall9) := ⟨_, _, _, rfl, rfl, rfl⟩
theorem adcIxIy : Statement (.adcIxIy) := ⟨_, _, _, rfl, rfl, rfl⟩
theorem decA : Statement (.decA) := ⟨_, _, _, rfl, rfl, rfl⟩
theorem movXSp : Statement (.movXSp) := ⟨_, _, _, rfl, rfl, rfl⟩
theorem div : Statement (.div) := ⟨_, _, _, rfl, rfl, rfl⟩
theorem xcn : Statement (.xcn) := ⟨_, _, _, rfl, rfl, rfl⟩
theorem ei : Statement (.ei) := ⟨_, _, _, rfl, rfl, rfl⟩
theorem tcall10 : Statement (.tcall10) := ⟨_, _, _, rfl, rfl, rfl⟩
theorem sbcAIx : Statement (.sbcAIx) := ⟨_, _, _, rfl, rfl, rfl⟩
theorem popA : Statement (.popA) := ⟨_, _, _, rfl, rfl, rfl⟩
theorem movIxIncA : Statement (.movIxIncA) := ⟨_, _, _, rfl, rfl, rfl⟩
theorem tcall11 : Statement (.tcall11) := ⟨_, _, _, rfl, rfl, rfl⟩
theorem sbcIxIy : Statement (.sbcIxIy) := ⟨_, _, _, rfl, rfl, rfl⟩
theorem incA : Statement (.incA) := ⟨_, _, _, rfl, rfl, rfl⟩
theorem movSpX : Statement (.movSpX) := ⟨_, _, _, rfl, rfl, rfl⟩
theorem das : Statement (.das) := ⟨_, _, _, rfl, rfl, rfl⟩
theorem movAIxInc : Statement (.movAIxInc) := ⟨_, _, _, rfl, rfl, rfl⟩
theorem di : Statement (.di) := ⟨_, _, _, rfl, rfl, rfl⟩
theorem tcall12 : Statement (.tcall12) := ⟨_, _, _, rfl, rfl, rfl⟩
theorem movIxA : Statement (.movIxA) := ⟨_, _, _, rfl, rfl, rfl⟩
theorem popX : Statement (.popX) := ⟨_, _, _, rfl, rfl, rfl⟩
theorem mul : Statement (.mul) := ⟨_, _, _, rfl, rfl, rfl⟩
theorem tcall13 : Statement (.tcall13) := ⟨_, _, _, rfl, rfl, rfl⟩
theorem decY : Statement (.decY) := ⟨_, _, _, rfl, rfl, rfl⟩
theorem movAY : Statement (.movAY) := ⟨_, _, _, rfl, rfl, rfl⟩
theorem daa : Statement (.daa) := ⟨_, _, _, rfl, rfl, rfl⟩
theorem clrv : Statement (.clrv) := ⟨_, _, _, rfl, rfl, rfl⟩
theorem tcall14 : Statement (.tcall14) := ⟨_, _, _, rfl, rfl, rfl⟩
theorem movAIx : Statement (.movAIx) := ⟨_, _, _, rfl, rfl, rfl⟩
theorem notc : Statement (.notc) := ⟨_, _, _, rfl, rfl, rfl⟩
theorem popY : Statement (.popY) := ⟨_, _, _, rfl, rfl, rfl⟩
theorem sleep : Statement (.sleep) := ⟨_, _, _, rfl, rfl, rfl⟩
theorem tcall15 : Statement (.tcall15) := ⟨_, _, _, rfl, rfl, rfl⟩
theorem incY : Statement (.incY) := ⟨_, _, _, rfl, rfl, rfl⟩
theorem movYA : Statement (.movYA) := ⟨_, _, _, rfl, rfl, rfl⟩
theorem stop : Statement (.stop) := ⟨_, _, _, rfl, rfl, rfl⟩

end Sys2Proof.Laws.EncodeFormat
end

