-- ==== Sys2Proof/Tests/Slice0.lean ====
section
/-! SUPPORT. The model's own tests: every constructor's decoding by a written word, the well-formedness smoke tests, single
steps from the spec's examples and vectors, and a witness for every statement that has hypotheses. -/

namespace Sys2Proof.Tests

open Sys2Proof Sys2Proof.Machine Sys2Proof.Claims

/-! ## Decoding -/

/-- Opcodes 0x00 to 0x0F, words of opcode_table.json with operand bytes 0x12, 0x34 (R150 to R160, R164). -/
theorem test_decode_row_0 : ∀ r ∈ ([
    ([0x00], .nop), ([0x01], .tcall0), ([0x02, 0x12], .set1B0 0x12), ([0x03, 0x12, 0x34], .bbsB0 0x12 0x34),
    ([0x04, 0x12], .orADp 0x12), ([0x05, 0x12, 0x34], .orAAbs 0x3412), ([0x06], .orAIx),
    ([0x07, 0x12], .orAIndX 0x12), ([0x08, 0x12], .orAImm 0x12), ([0x09, 0x12, 0x34], .orDpDp 0x12 0x34),
    ([0x0A, 0x12, 0x34], .or1CMb 0x1412 1), ([0x0B, 0x12], .aslDp 0x12), ([0x0C, 0x12, 0x34], .aslAbs 0x3412),
    ([0x0D], .pushPsw), ([0x0E, 0x12, 0x34], .tset1Abs 0x3412), ([0x0F], .brk)] :
    List (List Byte × Instr)), decode r.1 = .ok (r.2, []) := by decide

/-- Opcodes 0x10 to 0x1F, words of opcode_table.json with operand bytes 0x12, 0x34 (R150 to R160, R164). -/
theorem test_decode_row_1 : ∀ r ∈ ([
    ([0x10, 0x12], .bpl 0x12), ([0x11], .tcall1), ([0x12, 0x12], .clr1B0 0x12),
    ([0x13, 0x12, 0x34], .bbcB0 0x12 0x34), ([0x14, 0x12], .orADpX 0x12), ([0x15, 0x12, 0x34], .orAAbsX 0x3412),
    ([0x16, 0x12, 0x34], .orAAbsY 0x3412), ([0x17, 0x12], .orAIndY 0x12), ([0x18, 0x12, 0x34], .orDpImm 0x12 0x34),
    ([0x19], .orIxIy), ([0x1A, 0x12], .decwDp 0x12), ([0x1B, 0x12], .aslDpX 0x12), ([0x1C], .aslA), ([0x1D], .decX),
    ([0x1E, 0x12, 0x34], .cmpXAbs 0x3412), ([0x1F, 0x12, 0x34], .jmpIndAbsX 0x3412)] :
    List (List Byte × Instr)), decode r.1 = .ok (r.2, []) := by decide

/-- Opcodes 0x20 to 0x2F, words of opcode_table.json with operand bytes 0x12, 0x34 (R150 to R160, R164). -/
theorem test_decode_row_2 : ∀ r ∈ ([
    ([0x20], .clrp), ([0x21], .tcall2), ([0x22, 0x12], .set1B1 0x12), ([0x23, 0x12, 0x34], .bbsB1 0x12 0x34),
    ([0x24, 0x12], .andADp 0x12), ([0x25, 0x12, 0x34], .andAAbs 0x3412), ([0x26], .andAIx),
    ([0x27, 0x12], .andAIndX 0x12), ([0x28, 0x12], .andAImm 0x12), ([0x29, 0x12, 0x34], .andDpDp 0x12 0x34),
    ([0x2A, 0x12, 0x34], .or1CNotMb 0x1412 1), ([0x2B, 0x12], .rolDp 0x12), ([0x2C, 0x12, 0x34], .rolAbs 0x3412),
    ([0x2D], .pushA), ([0x2E, 0x12, 0x34], .cbneDp 0x12 0x34), ([0x2F, 0x12], .bra 0x12)] :
    List (List Byte × Instr)), decode r.1 = .ok (r.2, []) := by decide

/-- Opcodes 0x30 to 0x3F, words of opcode_table.json with operand bytes 0x12, 0x34 (R150 to R160, R164). -/
theorem test_decode_row_3 : ∀ r ∈ ([
    ([0x30, 0x12], .bmi 0x12), ([0x31], .tcall3), ([0x32, 0x12], .clr1B1 0x12),
    ([0x33, 0x12, 0x34], .bbcB1 0x12 0x34), ([0x34, 0x12], .andADpX 0x12), ([0x35, 0x12, 0x34], .andAAbsX 0x3412),
    ([0x36, 0x12, 0x34], .andAAbsY 0x3412), ([0x37, 0x12], .andAIndY 0x12),
    ([0x38, 0x12, 0x34], .andDpImm 0x12 0x34), ([0x39], .andIxIy), ([0x3A, 0x12], .incwDp 0x12),
    ([0x3B, 0x12], .rolDpX 0x12), ([0x3C], .rolA), ([0x3D], .incX), ([0x3E, 0x12], .cmpXDp 0x12),
    ([0x3F, 0x12, 0x34], .callAbs 0x3412)] :
    List (List Byte × Instr)), decode r.1 = .ok (r.2, []) := by decide

/-- Opcodes 0x40 to 0x4F, words of opcode_table.json with operand bytes 0x12, 0x34 (R150 to R160, R164). -/
theorem test_decode_row_4 : ∀ r ∈ ([
    ([0x40], .setp), ([0x41], .tcall4), ([0x42, 0x12], .set1B2 0x12), ([0x43, 0x12, 0x34], .bbsB2 0x12 0x34),
    ([0x44, 0x12], .eorADp 0x12), ([0x45, 0x12, 0x34], .eorAAbs 0x3412), ([0x46], .eorAIx),
    ([0x47, 0x12], .eorAIndX 0x12), ([0x48, 0x12], .eorAImm 0x12), ([0x49, 0x12, 0x34], .eorDpDp 0x12 0x34),
    ([0x4A, 0x12, 0x34], .and1CMb 0x1412 1), ([0x4B, 0x12], .lsrDp 0x12), ([0x4C, 0x12, 0x34], .lsrAbs 0x3412),
    ([0x4D], .pushX), ([0x4E, 0x12, 0x34], .tclr1Abs 0x3412), ([0x4F, 0x12], .pcall 0x12)] :
    List (List Byte × Instr)), decode r.1 = .ok (r.2, []) := by decide

/-- Opcodes 0x50 to 0x5F, words of opcode_table.json with operand bytes 0x12, 0x34 (R150 to R160, R164). -/
theorem test_decode_row_5 : ∀ r ∈ ([
    ([0x50, 0x12], .bvc 0x12), ([0x51], .tcall5), ([0x52, 0x12], .clr1B2 0x12),
    ([0x53, 0x12, 0x34], .bbcB2 0x12 0x34), ([0x54, 0x12], .eorADpX 0x12), ([0x55, 0x12, 0x34], .eorAAbsX 0x3412),
    ([0x56, 0x12, 0x34], .eorAAbsY 0x3412), ([0x57, 0x12], .eorAIndY 0x12),
    ([0x58, 0x12, 0x34], .eorDpImm 0x12 0x34), ([0x59], .eorIxIy), ([0x5A, 0x12], .cmpwYADp 0x12),
    ([0x5B, 0x12], .lsrDpX 0x12), ([0x5C], .lsrA), ([0x5D], .movXA), ([0x5E, 0x12, 0x34], .cmpYAbs 0x3412),
    ([0x5F, 0x12, 0x34], .jmpAbs 0x3412)] :
    List (List Byte × Instr)), decode r.1 = .ok (r.2, []) := by decide

/-- Opcodes 0x60 to 0x6F, words of opcode_table.json with operand bytes 0x12, 0x34 (R150 to R160, R164). -/
theorem test_decode_row_6 : ∀ r ∈ ([
    ([0x60], .clrc), ([0x61], .tcall6), ([0x62, 0x12], .set1B3 0x12), ([0x63, 0x12, 0x34], .bbsB3 0x12 0x34),
    ([0x64, 0x12], .cmpADp 0x12), ([0x65, 0x12, 0x34], .cmpAAbs 0x3412), ([0x66], .cmpAIx),
    ([0x67, 0x12], .cmpAIndX 0x12), ([0x68, 0x12], .cmpAImm 0x12), ([0x69, 0x12, 0x34], .cmpDpDp 0x12 0x34),
    ([0x6A, 0x12, 0x34], .and1CNotMb 0x1412 1), ([0x6B, 0x12], .rorDp 0x12), ([0x6C, 0x12, 0x34], .rorAbs 0x3412),
    ([0x6D], .pushY), ([0x6E, 0x12, 0x34], .dbnzDp 0x12 0x34), ([0x6F], .ret)] :
    List (List Byte × Instr)), decode r.1 = .ok (r.2, []) := by decide

/-- Opcodes 0x70 to 0x7F, words of opcode_table.json with operand bytes 0x12, 0x34 (R150 to R160, R164). -/
theorem test_decode_row_7 : ∀ r ∈ ([
    ([0x70, 0x12], .bvs 0x12), ([0x71], .tcall7), ([0x72, 0x12], .clr1B3 0x12),
    ([0x73, 0x12, 0x34], .bbcB3 0x12 0x34), ([0x74, 0x12], .cmpADpX 0x12), ([0x75, 0x12, 0x34], .cmpAAbsX 0x3412),
    ([0x76, 0x12, 0x34], .cmpAAbsY 0x3412), ([0x77, 0x12], .cmpAIndY 0x12),
    ([0x78, 0x12, 0x34], .cmpDpImm 0x12 0x34), ([0x79], .cmpIxIy), ([0x7A, 0x12], .addwYADp 0x12),
    ([0x7B, 0x12], .rorDpX 0x12), ([0x7C], .rorA), ([0x7D], .movAX), ([0x7E, 0x12], .cmpYDp 0x12), ([0x7F], .reti)] :
    List (List Byte × Instr)), decode r.1 = .ok (r.2, []) := by decide

/-- Opcodes 0x80 to 0x8F, words of opcode_table.json with operand bytes 0x12, 0x34 (R150 to R160, R164). -/
theorem test_decode_row_8 : ∀ r ∈ ([
    ([0x80], .setc), ([0x81], .tcall8), ([0x82, 0x12], .set1B4 0x12), ([0x83, 0x12, 0x34], .bbsB4 0x12 0x34),
    ([0x84, 0x12], .adcADp 0x12), ([0x85, 0x12, 0x34], .adcAAbs 0x3412), ([0x86], .adcAIx),
    ([0x87, 0x12], .adcAIndX 0x12), ([0x88, 0x12], .adcAImm 0x12), ([0x89, 0x12, 0x34], .adcDpDp 0x12 0x34),
    ([0x8A, 0x12, 0x34], .eor1CMb 0x1412 1), ([0x8B, 0x12], .decDp 0x12), ([0x8C, 0x12, 0x34], .decAbs 0x3412),
    ([0x8D, 0x12], .movYImm 0x12), ([0x8E], .popPsw), ([0x8F, 0x12, 0x34], .movDpImm 0x12 0x34)] :
    List (List Byte × Instr)), decode r.1 = .ok (r.2, []) := by decide

/-- Opcodes 0x90 to 0x9F, words of opcode_table.json with operand bytes 0x12, 0x34 (R150 to R160, R164). -/
theorem test_decode_row_9 : ∀ r ∈ ([
    ([0x90, 0x12], .bcc 0x12), ([0x91], .tcall9), ([0x92, 0x12], .clr1B4 0x12),
    ([0x93, 0x12, 0x34], .bbcB4 0x12 0x34), ([0x94, 0x12], .adcADpX 0x12), ([0x95, 0x12, 0x34], .adcAAbsX 0x3412),
    ([0x96, 0x12, 0x34], .adcAAbsY 0x3412), ([0x97, 0x12], .adcAIndY 0x12),
    ([0x98, 0x12, 0x34], .adcDpImm 0x12 0x34), ([0x99], .adcIxIy), ([0x9A, 0x12], .subwYADp 0x12),
    ([0x9B, 0x12], .decDpX 0x12), ([0x9C], .decA), ([0x9D], .movXSp), ([0x9E], .div), ([0x9F], .xcn)] :
    List (List Byte × Instr)), decode r.1 = .ok (r.2, []) := by decide

/-- Opcodes 0xA0 to 0xAF, words of opcode_table.json with operand bytes 0x12, 0x34 (R150 to R160, R164). -/
theorem test_decode_row_A : ∀ r ∈ ([
    ([0xA0], .ei), ([0xA1], .tcall10), ([0xA2, 0x12], .set1B5 0x12), ([0xA3, 0x12, 0x34], .bbsB5 0x12 0x34),
    ([0xA4, 0x12], .sbcADp 0x12), ([0xA5, 0x12, 0x34], .sbcAAbs 0x3412), ([0xA6], .sbcAIx),
    ([0xA7, 0x12], .sbcAIndX 0x12), ([0xA8, 0x12], .sbcAImm 0x12), ([0xA9, 0x12, 0x34], .sbcDpDp 0x12 0x34),
    ([0xAA, 0x12, 0x34], .mov1CMb 0x1412 1), ([0xAB, 0x12], .incDp 0x12), ([0xAC, 0x12, 0x34], .incAbs 0x3412),
    ([0xAD, 0x12], .cmpYImm 0x12), ([0xAE], .popA), ([0xAF], .movIxIncA)] :
    List (List Byte × Instr)), decode r.1 = .ok (r.2, []) := by decide

/-- Opcodes 0xB0 to 0xBF, words of opcode_table.json with operand bytes 0x12, 0x34 (R150 to R160, R164). -/
theorem test_decode_row_B : ∀ r ∈ ([
    ([0xB0, 0x12], .bcs 0x12), ([0xB1], .tcall11), ([0xB2, 0x12], .clr1B5 0x12),
    ([0xB3, 0x12, 0x34], .bbcB5 0x12 0x34), ([0xB4, 0x12], .sbcADpX 0x12), ([0xB5, 0x12, 0x34], .sbcAAbsX 0x3412),
    ([0xB6, 0x12, 0x34], .sbcAAbsY 0x3412), ([0xB7, 0x12], .sbcAIndY 0x12),
    ([0xB8, 0x12, 0x34], .sbcDpImm 0x12 0x34), ([0xB9], .sbcIxIy), ([0xBA, 0x12], .movwYADp 0x12),
    ([0xBB, 0x12], .incDpX 0x12), ([0xBC], .incA), ([0xBD], .movSpX), ([0xBE], .das), ([0xBF], .movAIxInc)] :
    List (List Byte × Instr)), decode r.1 = .ok (r.2, []) := by decide

/-- Opcodes 0xC0 to 0xCF, words of opcode_table.json with operand bytes 0x12, 0x34 (R150 to R160, R164). -/
theorem test_decode_row_C : ∀ r ∈ ([
    ([0xC0], .di), ([0xC1], .tcall12), ([0xC2, 0x12], .set1B6 0x12), ([0xC3, 0x12, 0x34], .bbsB6 0x12 0x34),
    ([0xC4, 0x12], .movDpA 0x12), ([0xC5, 0x12, 0x34], .movAbsA 0x3412), ([0xC6], .movIxA),
    ([0xC7, 0x12], .movIndXA 0x12), ([0xC8, 0x12], .cmpXImm 0x12), ([0xC9, 0x12, 0x34], .movAbsX 0x3412),
    ([0xCA, 0x12, 0x34], .mov1MbC 0x1412 1), ([0xCB, 0x12], .movDpY 0x12), ([0xCC, 0x12, 0x34], .movAbsY 0x3412),
    ([0xCD, 0x12], .movXImm 0x12), ([0xCE], .popX), ([0xCF], .mul)] :
    List (List Byte × Instr)), decode r.1 = .ok (r.2, []) := by decide

/-- Opcodes 0xD0 to 0xDF, words of opcode_table.json with operand bytes 0x12, 0x34 (R150 to R160, R164). -/
theorem test_decode_row_D : ∀ r ∈ ([
    ([0xD0, 0x12], .bne 0x12), ([0xD1], .tcall13), ([0xD2, 0x12], .clr1B6 0x12),
    ([0xD3, 0x12, 0x34], .bbcB6 0x12 0x34), ([0xD4, 0x12], .movDpXA 0x12), ([0xD5, 0x12, 0x34], .movAbsXA 0x3412),
    ([0xD6, 0x12, 0x34], .movAbsYA 0x3412), ([0xD7, 0x12], .movIndYA 0x12), ([0xD8, 0x12], .movDpX 0x12),
    ([0xD9, 0x12], .movDpYX 0x12), ([0xDA, 0x12], .movwDpYA 0x12), ([0xDB, 0x12], .movDpXY 0x12), ([0xDC], .decY),
    ([0xDD], .movAY), ([0xDE, 0x12, 0x34], .cbneDpX 0x12 0x34), ([0xDF], .daa)] :
    List (List Byte × Instr)), decode r.1 = .ok (r.2, []) := by decide

/-- Opcodes 0xE0 to 0xEF, words of opcode_table.json with operand bytes 0x12, 0x34 (R150 to R160, R164). -/
theorem test_decode_row_E : ∀ r ∈ ([
    ([0xE0], .clrv), ([0xE1], .tcall14), ([0xE2, 0x12], .set1B7 0x12), ([0xE3, 0x12, 0x34], .bbsB7 0x12 0x34),
    ([0xE4, 0x12], .movADp 0x12), ([0xE5, 0x12, 0x34], .movAAbs 0x3412), ([0xE6], .movAIx),
    ([0xE7, 0x12], .movAIndX 0x12), ([0xE8, 0x12], .movAImm 0x12), ([0xE9, 0x12, 0x34], .movXAbs 0x3412),
    ([0xEA, 0x12, 0x34], .not1Mb 0x1412 1), ([0xEB, 0x12], .movYDp 0x12), ([0xEC, 0x12, 0x34], .movYAbs 0x3412),
    ([0xED], .notc), ([0xEE], .popY), ([0xEF], .sleep)] :
    List (List Byte × Instr)), decode r.1 = .ok (r.2, []) := by decide

/-- Opcodes 0xF0 to 0xFF, words of opcode_table.json with operand bytes 0x12, 0x34 (R150 to R160, R164). -/
theorem test_decode_row_F : ∀ r ∈ ([
    ([0xF0, 0x12], .beq 0x12), ([0xF1], .tcall15), ([0xF2, 0x12], .clr1B7 0x12),
    ([0xF3, 0x12, 0x34], .bbcB7 0x12 0x34), ([0xF4, 0x12], .movADpX 0x12), ([0xF5, 0x12, 0x34], .movAAbsX 0x3412),
    ([0xF6, 0x12, 0x34], .movAAbsY 0x3412), ([0xF7, 0x12], .movAIndY 0x12), ([0xF8, 0x12], .movXDp 0x12),
    ([0xF9, 0x12], .movXDpY 0x12), ([0xFA, 0x12, 0x34], .movDpDp 0x12 0x34), ([0xFB, 0x12], .movYDpX 0x12),
    ([0xFC], .incY), ([0xFD], .movYA), ([0xFE, 0x12], .dbnzY 0x12), ([0xFF], .stop)] :
    List (List Byte × Instr)), decode r.1 = .ok (r.2, []) := by decide

/-! ## Single steps: the vectors of 95_test_vectors.md

Each starts from that file's base state (the state after reset with PC = 0x0200 and SP = 0xEF, the IPL ROM mapped) with the
CPU, CONTROL and RAM given; the expected values are the file's. -/

/-- A CPU that runs. -/
def cpu (a x y sp psw : Byte) (pc : Word) : Cpu where
  a := a
  x := x
  y := y
  sp := sp
  pc := pc
  psw := psw
  run := .running

/-- Bytes stored one after another from an address on. -/
def place (a : Word) (bytes : List Byte) (s : State) : State :=
  match bytes with
  | [] => s
  | b :: bs => place (a + 1) bs (s.setRam a b)

/-- A start state: CONTROL, the instruction's bytes at 0x0200, other bytes of RAM, the CPU. -/
def start (control : Byte) (bytes : List Byte) (ram : List (Word × Byte)) (c : Cpu) : State :=
  place 0x0200 bytes (ram.foldl (fun s p => s.setRam p.1 p.2)
    { State.reset with cpu := c, io := { Io.reset with control := control } })

/-- What a step leaves, if it answers a next state. -/
def viewFrom {α : Type} (f : State → α) (s : State) : Option α :=
  match step s with
  | .next t => some (f t)
  | .fault _ => none
  | .refused _ => none

/-- What a step from a start state leaves. -/
def view {α : Type} (f : State → α) (control : Byte) (bytes : List Byte) (ram : List (Word × Byte)) (c : Cpu) : Option α :=
  viewFrom f (start control bytes ram c)

/-- V4 of 95_test_vectors.md: the same with P = 1: page 1 -/
theorem test_v4_mov_a_d_x :
    view (fun t => (t.cpu, t.cycles)) 0xB0 [0xF4, 0x90]
        [(0x0010, 0x77), (0x0110, 0x99)] (cpu 0x00 0x80 0x00 0xEF 0x20 0x0200) =
      some (cpu 0x99 0x80 0x00 0xEF 0xA0 0x0202, 4) := by decide

/-- V5 of 95_test_vectors.md: `(X)+` at X = 0xFF with P = 0 reads I/O address 0x00FF: T_OUT[2] (0x0F after reset) is
returned and cleared; X wraps to 0x00 -/
theorem test_v5_mov_a_x :
    view (fun t => (t.cpu, t.io.tOut[2], t.cycles)) 0xB0 [0xBF] [] (cpu 0x00 0xFF 0x00 0xEF 0x00 0x0200) =
      some (cpu 0x0F 0x00 0x00 0xEF 0x00 0x0201, 0x00, 4) := by decide

/-- V6 of 95_test_vectors.md: pointer at d = 0xFF: low byte from offset 0xFF, high byte from offset 0x00 of the same
page (page 1 here); Y added after -/
theorem test_v6_mov_a_d_y :
    view (fun t => (t.cpu, t.cycles)) 0xB0 [0xF7, 0xFF]
        [(0x0100, 0x12), (0x01FF, 0x00), (0x1202, 0xAB)] (cpu 0x00 0x00 0x02 0xEF 0x20 0x0200) =
      some (cpu 0xAB 0x00 0x02 0xEF 0xA0 0x0202, 6) := by decide

/-- V8 of 95_test_vectors.md: `MOV dd,ds`: operand bytes are source then destination; no flags -/
theorem test_v8_mov_dd_ds :
    view (fun t => (t.cpu, [t.ram.read 0x0031], t.cycles)) 0xB0 [0xFA, 0x30, 0x31]
        [(0x0030, 0xAA)] (cpu 0x00 0x00 0x00 0xEF 0x00 0x0200) =
      some (cpu 0x00 0x00 0x00 0xEF 0x00 0x0203, [0xAA], 5) := by decide

/-- V13 of 95_test_vectors.md: `MOV d,#i`: bytes are immediate then address; writes CONTROL = 0x80 -/
theorem test_v13_mov_d_i :
    view (fun t => (t.cpu, [t.ram.read 0x00F1], t.io.control, t.cycles)) 0xB0 [0x8F, 0x80, 0xF1]
        [] (cpu 0x00 0x00 0x00 0xEF 0x00 0x0200) =
      some (cpu 0x00 0x00 0x00 0xEF 0x00 0x0203, [0x80], 0x80, 5) := by decide

/-- V15 of 95_test_vectors.md: !a+X wraps modulo 65536: 0xFFF8 + 0x10 = 0x0008 -/
theorem test_v15_mov_a_a_x :
    view (fun t => (t.cpu, t.cycles)) 0xB0 [0xF5, 0xF8, 0xFF] [(0x0008, 0x42)] (cpu 0x00 0x10 0x00 0xEF 0x00 0x0200) =
      some (cpu 0x42 0x10 0x00 0xEF 0x00 0x0203, 5) := by decide

/-- V23 of 95_test_vectors.md: `AND (X),(Y)`: reads (Y) then (X), writes (X); C untouched -/
theorem test_v23_and_x_y :
    view (fun t => (t.cpu, [t.ram.read 0x0040], t.cycles)) 0xB0 [0x39]
        [(0x0040, 0x0C), (0x0041, 0x0A)] (cpu 0x00 0x40 0x41 0xEF 0x01 0x0200) =
      some (cpu 0x00 0x40 0x41 0xEF 0x01 0x0201, [0x08], 5) := by decide

/-- V30 of 95_test_vectors.md: ADC 0x7F + 0x01: signed overflow V, half carry H, N; no C -/
theorem test_v30_adc_a_i :
    view (fun t => (t.cpu, t.cycles)) 0xB0 [0x88, 0x01] [] (cpu 0x7F 0x00 0x00 0xEF 0x00 0x0200) =
      some (cpu 0x80 0x00 0x00 0xEF 0xC8 0x0202, 2) := by decide

/-- V33 of 95_test_vectors.md: SBC 0x00 - 0x01 with C = 1 (no borrow in): 0xFF, borrow out (C = 0), H = 0 -/
theorem test_v33_sbc_a_i :
    view (fun t => (t.cpu, t.cycles)) 0xB0 [0xA8, 0x01] [] (cpu 0x00 0x00 0x00 0xEF 0x01 0x0200) =
      some (cpu 0xFF 0x00 0x00 0xEF 0x80 0x0202, 2) := by decide

/-- V34 of 95_test_vectors.md: SBC 0x80 - 0x01: signed overflow -/
theorem test_v34_sbc_a_i :
    view (fun t => (t.cpu, t.cycles)) 0xB0 [0xA8, 0x01] [] (cpu 0x80 0x00 0x00 0xEF 0x01 0x0200) =
      some (cpu 0x7F 0x00 0x00 0xEF 0x41 0x0202, 2) := by decide

/-- V35 of 95_test_vectors.md: SBC with C = 0 subtracts one more: 0x10 - 0x0F - 1 = 0x00 -/
theorem test_v35_sbc_a_i :
    view (fun t => (t.cpu, t.cycles)) 0xB0 [0xA8, 0x0F] [] (cpu 0x10 0x00 0x00 0xEF 0x00 0x0200) =
      some (cpu 0x00 0x00 0x00 0xEF 0x03 0x0202, 2) := by decide

/-- V36 of 95_test_vectors.md: CMP equal: Z and C; V and H keep their values -/
theorem test_v36_cmp_a_i :
    view (fun t => (t.cpu, t.cycles)) 0xB0 [0x68, 0x40] [] (cpu 0x40 0x00 0x00 0xEF 0x48 0x0200) =
      some (cpu 0x40 0x00 0x00 0xEF 0x4B 0x0202, 2) := by decide

/-- V38 of 95_test_vectors.md: `CMP X,#i` is unsigned: 0x80 >= 0x7F gives C -/
theorem test_v38_cmp_x_i :
    view (fun t => (t.cpu, t.cycles)) 0xB0 [0xC8, 0x7F] [] (cpu 0x00 0x80 0x00 0xEF 0x00 0x0200) =
      some (cpu 0x00 0x80 0x00 0xEF 0x01 0x0202, 2) := by decide

/-- V40 of 95_test_vectors.md: `ADC dd,ds`: 0x08 + 0x09 + 1 = 0x12, H set -/
theorem test_v40_adc_dd_ds :
    view (fun t => (t.cpu, [t.ram.read 0x0071], t.cycles)) 0xB0 [0x89, 0x70, 0x71]
        [(0x0070, 0x09), (0x0071, 0x08)] (cpu 0x00 0x00 0x00 0xEF 0x01 0x0200) =
      some (cpu 0x00 0x00 0x00 0xEF 0x08 0x0203, [0x12], 6) := by decide

/-- V42 of 95_test_vectors.md: `CMP d,#i`: 1 - 2 -/
theorem test_v42_cmp_d_i :
    view (fun t => (t.cpu, t.cycles)) 0xB0 [0x78, 0x02, 0x22] [(0x0022, 0x01)] (cpu 0x00 0x00 0x00 0xEF 0x00 0x0200) =
      some (cpu 0x00 0x00 0x00 0xEF 0x80 0x0203, 5) := by decide

/-- V51 of 95_test_vectors.md: ROL A: old C enters bit 0 -/
theorem test_v51_rol_a :
    view (fun t => (t.cpu, t.cycles)) 0xB0 [0x3C] [] (cpu 0x80 0x00 0x00 0xEF 0x01 0x0200) =
      some (cpu 0x01 0x00 0x00 0xEF 0x01 0x0201, 2) := by decide

/-- V53 of 95_test_vectors.md: ROR A: old C enters bit 7 -/
theorem test_v53_ror_a :
    view (fun t => (t.cpu, t.cycles)) 0xB0 [0x7C] [] (cpu 0x01 0x00 0x00 0xEF 0x01 0x0200) =
      some (cpu 0x80 0x00 0x00 0xEF 0x81 0x0201, 2) := by decide

/-- V58 of 95_test_vectors.md: DEC !a to zero -/
theorem test_v58_dec_a :
    view (fun t => (t.cpu, [t.ram.read 0x1234], t.cycles)) 0xB0 [0x8C, 0x34, 0x12]
        [(0x1234, 0x01)] (cpu 0x00 0x00 0x00 0xEF 0x00 0x0200) =
      some (cpu 0x00 0x00 0x00 0xEF 0x02 0x0203, [0x00], 5) := by decide

/-- V59 of 95_test_vectors.md: XCN A swaps nibbles -/
theorem test_v59_xcn_a :
    view (fun t => (t.cpu, t.cycles)) 0xB0 [0x9F] [] (cpu 0xA5 0x00 0x00 0xEF 0x00 0x0200) =
      some (cpu 0x5A 0x00 0x00 0xEF 0x00 0x0201, 5) := by decide

/-- V60 of 95_test_vectors.md: `INC 0xFD`: the read half reads and clears T_OUT[0] (0x0F after reset); the write
stores 0x10 in ram only -/
theorem test_v60_inc_d :
    view (fun t => (t.cpu, [t.ram.read 0x00FD], t.io.tOut[0], t.cycles)) 0xB0 [0xAB, 0xFD]
        [] (cpu 0x00 0x00 0x00 0xEF 0x00 0x0200) =
      some (cpu 0x00 0x00 0x00 0xEF 0x00 0x0202, [0x10], 0x00, 4) := by decide

set_option maxRecDepth 2000 in
/-- V73 of 95_test_vectors.md: INCW 0xFFFF to 0x0000: Z; C untouched -/
theorem test_v73_incw_d :
    view (fun t => (t.cpu, [t.ram.read 0x0034, t.ram.read 0x0035], t.cycles)) 0xB0 [0x3A, 0x34]
        [(0x0034, 0xFF), (0x0035, 0xFF)] (cpu 0x00 0x00 0x00 0xEF 0x00 0x0200) =
      some (cpu 0x00 0x00 0x00 0xEF 0x02 0x0202, [0x00, 0x00], 6) := by decide

set_option maxRecDepth 2000 in
/-- V75 of 95_test_vectors.md: INCW d with d = 0xFF: the high byte is at offset 0x00 of the same page (0x0100 here,
not 0x0200); carry from low to high byte -/
theorem test_v75_incw_d :
    view (fun t => (t.cpu, [t.ram.read 0x0100, t.ram.read 0x01FF], t.cycles)) 0xB0 [0x3A, 0xFF]
        [(0x0100, 0x00), (0x01FF, 0xFF)] (cpu 0x00 0x00 0x00 0xEF 0x20 0x0200) =
      some (cpu 0x00 0x00 0x00 0xEF 0x20 0x0202, [0x01, 0x00], 6) := by decide

/-- V76 of 95_test_vectors.md: ADDW 0x7FFF + 0x0001: V, H (carry out of bit 11), N -/
theorem test_v76_addw_ya_d :
    view (fun t => (t.cpu, t.cycles)) 0xB0 [0x7A, 0x36]
        [(0x0036, 0x01), (0x0037, 0x00)] (cpu 0xFF 0x00 0x7F 0xEF 0x00 0x0200) =
      some (cpu 0x00 0x00 0x80 0xEF 0xC8 0x0202, 5) := by decide

/-- V78 of 95_test_vectors.md: SUBW 0 - 1: 0xFFFF, borrow (C = 0) -/
theorem test_v78_subw_ya_d :
    view (fun t => (t.cpu, t.cycles)) 0xB0 [0x9A, 0x36]
        [(0x0036, 0x01), (0x0037, 0x00)] (cpu 0x00 0x00 0x00 0xEF 0x00 0x0200) =
      some (cpu 0xFF 0x00 0xFF 0xEF 0x80 0x0202, 5) := by decide

/-- V79 of 95_test_vectors.md: CMPW equal: Z, C; V and H untouched -/
theorem test_v79_cmpw_ya_d :
    view (fun t => (t.cpu, t.cycles)) 0xB0 [0x5A, 0x36]
        [(0x0036, 0x34), (0x0037, 0x12)] (cpu 0x34 0x00 0x12 0xEF 0x48 0x0200) =
      some (cpu 0x34 0x00 0x12 0xEF 0x4B 0x0202, 4) := by decide

/-- V82 of 95_test_vectors.md: MUL 1 x 0x10 = 0x0010: Y = 0 so Z = 1 although YA is not zero -/
theorem test_v82_mul_ya :
    view (fun t => (t.cpu, t.cycles)) 0xB0 [0xCF] [] (cpu 0x10 0x00 0x01 0xEF 0x00 0x0200) =
      some (cpu 0x10 0x00 0x00 0xEF 0x02 0x0201, 9) := by decide

set_option maxRecDepth 2000 in
/-- V84 of 95_test_vectors.md: DIV with Y >= X: quotient over 255, V set -/
theorem test_v84_div_ya_x :
    view (fun t => (t.cpu, t.cycles)) 0xB0 [0x9E] [] (cpu 0x00 0x02 0x02 0xEF 0x00 0x0200) =
      some (cpu 0x00 0x02 0x00 0xEF 0x4A 0x0201, 12) := by decide

set_option maxRecDepth 2000 in
/-- V85 of 95_test_vectors.md: DIV by zero -/
theorem test_v85_div_ya_x :
    view (fun t => (t.cpu, t.cycles)) 0xB0 [0x9E] [] (cpu 0x34 0x00 0x12 0xEF 0x00 0x0200) =
      some (cpu 0xED 0x00 0x34 0xEF 0xC8 0x0201, 12) := by decide

/-- V88 of 95_test_vectors.md: DAA 0x9A to 0x00 with C -/
theorem test_v88_daa_a :
    view (fun t => (t.cpu, t.cycles)) 0xB0 [0xDF] [] (cpu 0x9A 0x00 0x00 0xEF 0x00 0x0200) =
      some (cpu 0x00 0x00 0x00 0xEF 0x03 0x0201, 3) := by decide

/-- V90 of 95_test_vectors.md: DAS with C = 0 and H = 0 subtracts 0x66 -/
theorem test_v90_das_a :
    view (fun t => (t.cpu, t.cycles)) 0xB0 [0xBE] [] (cpu 0xFF 0x00 0x00 0xEF 0x00 0x0200) =
      some (cpu 0x99 0x00 0x00 0xEF 0x80 0x0201, 3) := by decide

/-- V101 of 95_test_vectors.md: CLR1 d.3 -/
theorem test_v101_clr1_d_3 :
    view (fun t => (t.cpu, [t.ram.read 0x0040], t.cycles)) 0xB0 [0x72, 0x40]
        [(0x0040, 0xFF)] (cpu 0x00 0x00 0x00 0xEF 0x00 0x0200) =
      some (cpu 0x00 0x00 0x00 0xEF 0x00 0x0202, [0xF7], 4) := by decide

/-- V102 of 95_test_vectors.md: TSET1: N, Z from A - m (0x0F - 0xF0 = 0x1F); m <- m OR A -/
theorem test_v102_tset1_a :
    view (fun t => (t.cpu, [t.ram.read 0x1000], t.cycles)) 0xB0 [0x0E, 0x00, 0x10]
        [(0x1000, 0xF0)] (cpu 0x0F 0x00 0x00 0xEF 0x00 0x0200) =
      some (cpu 0x0F 0x00 0x00 0xEF 0x00 0x0203, [0xFF], 6) := by decide

/-- V103 of 95_test_vectors.md: TCLR1: Z because A = m; m <- m AND NOT A -/
theorem test_v103_tclr1_a :
    view (fun t => (t.cpu, [t.ram.read 0x1000], t.cycles)) 0xB0 [0x4E, 0x00, 0x10]
        [(0x1000, 0xF0)] (cpu 0xF0 0x00 0x00 0xEF 0x00 0x0200) =
      some (cpu 0xF0 0x00 0x00 0xEF 0x02 0x0203, [0x00], 6) := by decide

/-- V104 of 95_test_vectors.md: AND1 C,m.b with m = 0x1000, b = 3: operand word 0x7000 = (3 << 13) OR 0x1000 -/
theorem test_v104_and1_c_m_b :
    view (fun t => (t.cpu, t.cycles)) 0xB0 [0x4A, 0x00, 0x70] [(0x1000, 0x08)] (cpu 0x00 0x00 0x00 0xEF 0x01 0x0200) =
      some (cpu 0x00 0x00 0x00 0xEF 0x01 0x0203, 4) := by decide

/-- V107 of 95_test_vectors.md: OR1 C,/m.b -/
theorem test_v107_or1_c_m_b :
    view (fun t => (t.cpu, t.cycles)) 0xB0 [0x2A, 0xFF, 0xFF] [(0x1FFF, 0x80)] (cpu 0x00 0x00 0x00 0xEF 0x00 0x0200) =
      some (cpu 0x00 0x00 0x00 0xEF 0x00 0x0203, 5) := by decide

/-- V111 of 95_test_vectors.md: MOV1 m.b,C -/
theorem test_v111_mov1_m_b_c :
    view (fun t => (t.cpu, [t.ram.read 0x0100], t.cycles)) 0xB0 [0xCA, 0x00, 0x81]
        [(0x0100, 0x00)] (cpu 0x00 0x00 0x00 0xEF 0x01 0x0200) =
      some (cpu 0x00 0x00 0x00 0xEF 0x01 0x0203, [0x10], 6) := by decide

/-- V115 of 95_test_vectors.md: CLRV clears V and H -/
theorem test_v115_clrv :
    view (fun t => (t.cpu, t.cycles)) 0xB0 [0xE0] [] (cpu 0x00 0x00 0x00 0xEF 0xFF 0x0200) =
      some (cpu 0x00 0x00 0x00 0xEF 0xB7 0x0201, 2) := by decide

/-- V120 of 95_test_vectors.md: `SET1 0xF1.0`: the read of CONTROL returns 0x00, so the write is 0x01: bit 7 of
CONTROL is cleared as a side effect and timer 0 starts -/
theorem test_v120_set1_d_0 :
    view (fun t => (t.cpu, [t.ram.read 0x00F1], t.io.control, t.cycles)) 0xB0 [0x02, 0xF1]
        [] (cpu 0x00 0x00 0x00 0xEF 0x00 0x0200) =
      some (cpu 0x00 0x00 0x00 0xEF 0x00 0x0202, [0x01], 0x01, 4) := by decide

/-- V132 of 95_test_vectors.md: BRA with rel = -128 -/
theorem test_v132_bra_rel :
    view (fun t => (t.cpu, t.cycles)) 0xB0 [0x2F, 0x80] [] (cpu 0x00 0x00 0x00 0xEF 0x00 0x0200) =
      some (cpu 0x00 0x00 0x00 0xEF 0x00 0x0182, 4) := by decide

/-- V136 of 95_test_vectors.md: BMI taken, furthest forward -/
theorem test_v136_bmi_rel :
    view (fun t => (t.cpu, t.cycles)) 0xB0 [0x30, 0x7F] [] (cpu 0x00 0x00 0x00 0xEF 0x80 0x0200) =
      some (cpu 0x00 0x00 0x00 0xEF 0x80 0x0281, 4) := by decide

/-- V137 of 95_test_vectors.md: BBS d.5 taken: 0x0203 + 4; 7 cycles -/
theorem test_v137_bbs_d_5_rel :
    view (fun t => (t.cpu, t.cycles)) 0xB0 [0xA3, 0x40, 0x04] [(0x0040, 0x20)] (cpu 0x00 0x00 0x00 0xEF 0x00 0x0200) =
      some (cpu 0x00 0x00 0x00 0xEF 0x00 0x0207, 7) := by decide

/-- V139 of 95_test_vectors.md: CBNE d: A != m, branch to itself; flags untouched -/
theorem test_v139_cbne_d_rel :
    view (fun t => (t.cpu, t.cycles)) 0xB0 [0x2E, 0x40, 0xFD] [(0x0040, 0x11)] (cpu 0x10 0x00 0x00 0xEF 0x00 0x0200) =
      some (cpu 0x10 0x00 0x00 0xEF 0x00 0x0200, 7) := by decide

/-- V141 of 95_test_vectors.md: DBNZ Y: 1 to 0, not taken; flags untouched -/
theorem test_v141_dbnz_y_rel :
    view (fun t => (t.cpu, t.cycles)) 0xB0 [0xFE, 0xFE] [] (cpu 0x00 0x00 0x01 0xEF 0x00 0x0200) =
      some (cpu 0x00 0x00 0x00 0xEF 0x00 0x0202, 4) := by decide

/-- V143 of 95_test_vectors.md: DBNZ d: 2 to 1, taken -/
theorem test_v143_dbnz_d_rel :
    view (fun t => (t.cpu, [t.ram.read 0x0040], t.cycles)) 0xB0 [0x6E, 0x40, 0xFD]
        [(0x0040, 0x02)] (cpu 0x00 0x00 0x00 0xEF 0x00 0x0200) =
      some (cpu 0x00 0x00 0x00 0xEF 0x00 0x0200, [0x01], 7) := by decide

/-- V145 of 95_test_vectors.md: JMP [!a+X]: pointer at 0x1002 -/
theorem test_v145_jmp_a_x :
    view (fun t => (t.cpu, t.cycles)) 0xB0 [0x1F, 0x00, 0x10]
        [(0x1002, 0x78), (0x1003, 0x56)] (cpu 0x00 0x02 0x00 0xEF 0x00 0x0200) =
      some (cpu 0x00 0x02 0x00 0xEF 0x00 0x5678, 6) := by decide

/-- V148 of 95_test_vectors.md: CALL with SP = 0x00: high byte at 0x0100, SP wraps, low byte at 0x01FF -/
theorem test_v148_call_a :
    view (fun t => (t.cpu, [t.ram.read 0x0100, t.ram.read 0x01FF], t.cycles)) 0xB0 [0x3F, 0x00, 0x30]
        [] (cpu 0x00 0x00 0x00 0x00 0x00 0x0200) =
      some (cpu 0x00 0x00 0x00 0xFE 0x00 0x3000, [0x02, 0x03], 8) := by decide

/-- V150 of 95_test_vectors.md: TCALL 5: vector at 0xFFDE - 10 = 0xFFD4, read from ram because CONTROL bit 7 = 0 -/
theorem test_v150_tcall_5 :
    view (fun t => (t.cpu, [t.ram.read 0x01EE, t.ram.read 0x01EF], t.cycles)) 0x30 [0x51]
        [(0xFFD4, 0x00), (0xFFD5, 0x40)] (cpu 0x00 0x00 0x00 0xEF 0x00 0x0200) =
      some (cpu 0x00 0x00 0x00 0xED 0x00 0x4000, [0x01, 0x02], 8) := by decide

/-- V152 of 95_test_vectors.md: BRK: pushes PC (0x0201) and PSW (0x85, before B is set), then B <- 1, I <- 0, PC <-
[0xFFDE] -/
theorem test_v152_brk :
    view (fun t => (t.cpu, [t.ram.read 0x01ED, t.ram.read 0x01EE, t.ram.read 0x01EF], t.cycles)) 0x30 [0x0F]
        [(0xFFDE, 0x00), (0xFFDF, 0x50)] (cpu 0x00 0x00 0x00 0xEF 0x85 0x0200) =
      some (cpu 0x00 0x00 0x00 0xEC 0x91 0x5000, [0x85, 0x01, 0x02], 8) := by decide

/-- V153 of 95_test_vectors.md: RETI: pops PSW then PC; returns to the byte after BRK -/
theorem test_v153_reti :
    view (fun t => (t.cpu, t.cycles)) 0xB0 [0x7F]
        [(0x01ED, 0x85), (0x01EE, 0x01), (0x01EF, 0x02)] (cpu 0x00 0x00 0x00 0xEC 0x00 0x0200) =
      some (cpu 0x00 0x00 0x00 0xEF 0x85 0x0201, 6) := by decide

/-- V155 of 95_test_vectors.md: POP PSW sets all eight flags, P and I included -/
theorem test_v155_pop_psw :
    view (fun t => (t.cpu, t.cycles)) 0xB0 [0x8E] [(0x01EF, 0xFF)] (cpu 0x00 0x00 0x00 0xEE 0x00 0x0200) =
      some (cpu 0x00 0x00 0x00 0xEF 0xFF 0x0201, 4) := by decide

/-- V157 of 95_test_vectors.md: POP Y with SP = 0xFF: SP wraps to 0x00, reads 0x0100; no flags -/
theorem test_v157_pop_y :
    view (fun t => (t.cpu, t.cycles)) 0xB0 [0xEE] [(0x0100, 0x99)] (cpu 0x00 0x00 0x00 0xFF 0x02 0x0200) =
      some (cpu 0x00 0x00 0x99 0x00 0x02 0x0201, 4) := by decide

/-- V159 of 95_test_vectors.md: SLEEP: `cpu_run` <- Sleeping, `fault` set -/
theorem test_v159_sleep :
    view (fun t => (t.cpu, t.fault, t.cycles)) 0xB0 [0xEF] [] (cpu 0x00 0x00 0x00 0xEF 0x00 0x0200) =
      some ({ cpu 0x00 0x00 0x00 0xEF 0x00 0x0201 with run := .sleeping }, some .sleeping, 3) := by decide

/-- V160 of 95_test_vectors.md: STOP: `cpu_run` <- Stopped, `fault` set -/
theorem test_v160_stop :
    view (fun t => (t.cpu, t.fault, t.cycles)) 0xB0 [0xFF] [] (cpu 0x00 0x00 0x00 0xEF 0x00 0x0200) =
      some ({ cpu 0x00 0x00 0x00 0xEF 0x00 0x0201 with run := .stopped }, some .stopped, 3) := by decide

/-- V201 of 95_test_vectors.md: TEST write of any other value: the instruction completes, ram[0x00F0] is written,
`fault` is set (rule R110) -/
theorem test_v201_mov_d_i :
    view (fun t => (t.cpu, [t.ram.read 0x00F0], t.io.test, t.fault, t.cycles)) 0xB0 [0x8F, 0x00, 0xF0]
        [] (cpu 0x00 0x00 0x00 0xEF 0x00 0x0200) =
      some (cpu 0x00 0x00 0x00 0xEF 0x00 0x0203, [0x00], 0x0A, some .testWrite, 5) := by decide

/-- V202 of 95_test_vectors.md: TEST reads as 0x00 although it holds 0x0A -/
theorem test_v202_mov_a_d :
    view (fun t => (t.cpu, t.cycles)) 0xB0 [0xE4, 0xF0] [] (cpu 0x00 0x00 0x00 0xEF 0x00 0x0200) =
      some (cpu 0x00 0x00 0x00 0xEF 0x02 0x0202, 3) := by decide
/-! ## WellFormed: the terms the check refuses (R159) -/

/-- A bit number of 8 and an address of 0x2000 have no encoding, in any of the eight `m.b` forms; 7 and 0x1FFF have. -/
theorem test_wellFormed_mb :
    ∀ f ∈ ([.or1CMb, .or1CNotMb, .and1CMb, .and1CNotMb, .eor1CMb, .mov1CMb, .mov1MbC, .not1Mb] : List (Word → Nat → Instr)),
      (f 0x0000 8).wellFormed = false ∧ (f 0x2000 0).wellFormed = false ∧ (f 0x1FFF 7).wellFormed = true := by decide

/-- The encoder gives the words the decoder reads (R157, R159, R161). -/
theorem test_encode_words :
    encode (.or1CMb 0x1FFF 7) = [0x0A, 0xFF, 0xFF] ∧ encode (.and1CMb 0x1000 3) = [0x4A, 0x00, 0x70] ∧
    encode (.movDpDp 0x30 0x31) = [0xFA, 0x30, 0x31] ∧ encode (.callAbs 0x3000) = [0x3F, 0x00, 0x30] := by decide

/-- A truncated instruction is refused; nothing else is (R163). -/
theorem test_decode_truncated :
    decode [] = .error .noBytes ∧ decode [0xE5, 0x12] = .error .truncated ∧ decode [0xE4] = .error .truncated := by
  decide

/-- The table's numbering: the opcode in bits 7 to 0, the operand bytes above it; bits not given are 0. -/
theorem test_decodeTableWord :
    decodeTableWord 24 0x1234E5 = some (.movAAbs 0x1234) ∧ decodeTableWord 8 0xE5 = some (.movAAbs 0x0000) ∧
    decodeTableWord 8 0x00 = some .nop := by decide

/-! ## Reset and the first step -/

/-- The step after `withFetchWord` runs the instruction placed: NOP, `MOV A,#i`, STOP. -/
theorem test_withFetchWord :
    viewFrom (fun t => (t.cpu, t.clk)) (State.reset.withFetchWord 8 0x00) = some (cpu 0 0 0 0 0 0xFFC1, 2) ∧
    viewFrom (fun t => (t.cpu.a, t.cpu.psw)) (State.reset.withFetchWord 16 0x80E8) = some (0x80, 0x80) ∧
    viewFrom (fun t => t.fault) (State.reset.withFetchWord 8 0xFF) = some (some .stopped) := by decide

/-- The first step after reset runs the IPL ROM's first instruction, `MOV X,#0xEF` (R106, R700). -/
theorem test_first_step_after_reset :
    viewFrom (fun t => (t.cpu, t.clk)) State.reset = some (cpu 0x00 0xEF 0x00 0x00 0x80 0xFFC2, 2) := by decide

/-! ## DSP: the vectors of 95_test_vectors.md, section E -/

/-- B1 to B13: the four samples of a group, from its header, its two data bytes and `buf[10]`, `buf[11]`. -/
theorem test_brr_vectors :
    ∀ r ∈ ([(0x00, [0x17, 0x8F], 0, 0, [1, 7, -8, -1]), (0xC0, [0x78, 0x1F], 0, 0, [28672, -32768, 4096, -4096]),
        (0x80, [0x12, 0x34], 999, -999, [256, 512, 768, 1024]), (0xD0, [0x78, 0x1F], 0, 0, [0, -4096, 0, -4096]),
        (0xF0, [0x78, 0x1F], 0, 0, [0, -4096, 0, -4096]), (0xE4, [0x78, 0x1F], 0, 0, [0, -4096, -3840, -7696]),
        (0x44, [0x11, 0x11], 0, 0, [16, 30, 44, 56]), (0x48, [0x11, 0x11], 2048, 4096, [5904, 7430, 8642, 9522]),
        (0x4C, [0x11, 0x11], 2048, 4096, [5712, 6950, 7862, 8494]),
        (0xC4, [0x70, 0x00], 0, 32766, [-6146, -5762, -5402, -5066]),
        (0xC8, [0x70, 0x00], -32768, 32766, [-2, -30724, 6968, -23452]),
        (0xC8, [0x80, 0x00], 32766, -32768, [0, 30720, -6976, 23438]), (0x04, [0xF0, 0x00], 0, 0, [-2, -2, -2, -2])] :
        List (Byte × List Byte × Int × Int × List Int)),
      let ram := Memory.write (Memory.write (Memory.write [] 0x1000 r.1) 0x1001 (r.2.1.getD 0 0)) 0x1002 (r.2.1.getD 1 0)
      let x : Voice := { Voice.reset with
        brrAddr := 0x1000, buf := (Voice.reset.buf.set 10 (wrap16 r.2.2.1)).set 11 (wrap16 r.2.2.2.1) }
      let y := x.decodeGroup ram
      [0, 1, 2, 3].map (fun i => (y.ring i).toInt) = r.2.2.2.2 ∧ y.bufPos = 4 := by decide

/-- A voice in a mode at a level. -/
def voiceAt (m : EnvMode) (l : Nat) : Voice := { Voice.reset with mode := m, level := l }

/-- Envelope steps at the counter values after the first ticks: 30719, 30718, ... (R520). -/
def envAfter : Nat → Voice → Byte → Byte → Byte → Nat × EnvMode
  | 0, x, _, _, _ => (x.level, x.mode)
  | n + 1, x, a, b, g =>
    let y := envAfter n x a b g
    let z := (voiceAt y.2 y.1).envStep (30719 - n) a b g
    (z.level, z.mode)

/-- E1, E2 (first event), E5, E8 to E15, E17. -/
theorem test_envelope_vectors :
    envAfter 1 (voiceAt .attack 0) 0x8F 0xE0 0 = (0x400, .attack) ∧ envAfter 2 (voiceAt .attack 0) 0x8F 0xE0 0 = (0x7FF, .decay) ∧
    envAfter 1 (voiceAt .attack 0) 0x8E 0xE0 0 = (0, .attack) ∧ envAfter 2 (voiceAt .attack 0) 0x8E 0xE0 0 = (0x20, .attack) ∧
    envAfter 1 (voiceAt .decay 0x7FF) 0xFF 0xFF 0 = (0x7FF, .decay) ∧
    envAfter 2 (voiceAt .decay 0x7FF) 0xFF 0xFF 0 = (0x7F7, .sustain) ∧
    envAfter 1 (voiceAt .release 1) 0 0 0 = (0, .off) ∧ envAfter 1 (voiceAt .release 0) 0 0 0 = (0, .off) ∧
    envAfter 1 (voiceAt .attack 0x123) 0 0 0x7F = (0x7F0, .attack) ∧
    envAfter 2 (voiceAt .attack 0x7C0) 0 0 0xDF = (0x7FF, .attack) ∧
    envAfter 4 (voiceAt .sustain 0x5E0) 0 0 0xFF = (0x618, .sustain) ∧
    envAfter 1 (voiceAt .sustain 0x7F8) 0 0 0xFF = (0x7FF, .sustain) ∧
    envAfter 3 (voiceAt .sustain 0x030) 0 0 0x9F = (0, .sustain) ∧
    envAfter 3 (voiceAt .sustain 0x7FF) 0 0 0xBF = (0x7E7, .sustain) ∧
    envAfter 1 (voiceAt .off 0) 0 0 0x7F = (0, .off) := by decide

/-- The noise sequence of section V-NOISE around its first feedback. -/
theorem test_noise_vectors :
    [0x4000, 0x2000, 0x0008, 0x0004, 0x0002, 0x4001, 0x6000].map noiseStep =
      [0x2000, 0x1000, 0x0004, 0x0002, 0x4001, 0x6000, 0x3000] := by decide

/-- The state of section V-MIX: voice 0 on the frozen noise at level 0x7F0, some registers written. -/
def mixState (regs : List (BitVec 7 × Byte)) : State :=
  let v0 : Voice := { Voice.reset with mode := .sustain, level := 0x7F0 }
  let d := (Dsp.reset.setVoice 0 v0).setReg 0x3D 0x01
  { State.reset with dsp := regs.foldl (fun d r => d.setReg r.1 r.2) (d.setReg 0x07 0x7F) }

/-- M1: the frame, out, ENVX and OUTX of voice 0. -/
theorem test_mix_m1 :
    let t := (mixState [(0x00, 0x7F), (0x01, 0x40), (0x0C, 0x7F), (0x1C, 0x7F), (0x6C, 0x20)]).dspTick
    (t.frame.map fun f => (f.l.toInt, f.r.toInt)) = some (-32006, -16129) ∧ (t.dsp.voice 0).out.toInt = -32512 ∧
    t.dsp.reg 0x08 = 0x7F ∧ t.dsp.reg 0x09 = 0x81 := by decide +kernel

/-- M9: the echo frame written to RAM. -/
theorem test_mix_m9 :
    let t := (mixState [(0x00, 0x7F), (0x01, 0x40), (0x6C, 0x00), (0x4D, 0x01), (0x6D, 0x80)]).dspTick
    t.ram = [⟨0x8000, 0xFE⟩, ⟨0x8001, 0x81⟩, ⟨0x8002, 0x80⟩, ⟨0x8003, 0xC0⟩] ∧ t.frame = some ⟨0, 0⟩ ∧
    t.dsp.echoOffset = 0 := by decide +kernel

/-- M14: pitch modulation by voice 0 of a voice that is Off. -/
theorem test_mix_m14 :
    ((mixState [(0x6C, 0x20), (0x2D, 0x02), (0x13, 0x10)]).dspTick.dsp.voice 1).interpPos = 0x0020 := by decide +kernel

/-- M12: the echo output path alone. -/
theorem test_mix_m12 :
    let s := mixState [(0x07, 0x00), (0x7F, 0x7F), (0x2C, 0x7F), (0x3C, 0x40), (0x6D, 0x80), (0x6C, 0x20)]
    let s := { s with ram := (s.ram.write 0x8001 0x40).write 0x8003 0xC0 }
    (s.dspTick.frame.map fun f => (f.l.toInt, f.r.toInt)) = some (16129, -8128) := by decide +kernel

/-- T9: timer 2 enabled at clk 10 with target 1 increments when clk reaches 16 and not one cycle earlier. -/
theorem test_timer_vectors :
    let s : State := { (State.reset.memWrite 0xFC 0x01).memWrite 0xF1 0x04 with clk := 16 }
    s.timerCycle.io.tOut[2] = 1 ∧ s.timerCycle.io.tDiv[2] = 0 ∧ { s with clk := 15 }.timerCycle.io.tOut[2] = 0 := by decide

/-- X1, X2: the echo offset at EDL = 0 and around the wrap at EDL = 1. -/
theorem test_echo_vectors :
    let at1 (k : Nat) : Dsp := { Dsp.reset.setReg 0x7D 0x01 with echoOffset := k, echoLength := 2048 }
    Dsp.reset.advanceEcho.echoOffset = 0 ∧ (at1 0).advanceEcho.echoOffset = 4 ∧ (at1 2040).advanceEcho.echoOffset = 2044 ∧
    (at1 2044).advanceEcho.echoOffset = 0 := by decide

/-! ## Witnesses: states and operands that meet the hypotheses of each statement -/

/-- The state after reset with a NOP placed where the next step fetches. -/
def nopState : State := State.reset.withFetchWord 8 0x00

/-- The same, two cycles before a DSP tick. -/
def tickState : State := { nopState with clk := 30 }

/-- The smallest snapshot `load` accepts (R612). -/
def snapshot : List Byte := signature ++ List.replicate 0x101E5 0x00

theorem nopState_inv : nopState.Inv where
  ram := by decide
  run := fun h => absurd rfl h
  test := rfl
  dsp := {
    voice := fun v => {
      offset := by revert v; decide
      pos := by revert v; decide
      interp := by revert v; decide
      level := by revert v; decide
      delay := by revert v; decide
      silent := by revert v; decide
      even := by revert v; decide }
    rate := by decide
    noise := by decide
    frame := by decide
    unit := by decide
    length := by decide
    inside := by decide }

theorem witness_DecodeOfEncode :
    (Instr.mov1MbC 0x1FFF 7).WellFormed ∧ (Instr.orDpDp 0xFF 0x00).WellFormed ∧ Instr.nop.WellFormed := by decide

theorem witness_EncodeOfDecode : decode [0x09, 0x12, 0x34, 0x56] = .ok (.orDpDp 0x12 0x34, [0x56]) := by decide

theorem witness_StepRunsDecoded :
    nopState.runnable ∧
    decode [nopState.peek nopState.cpu.pc, nopState.peek (nopState.cpu.pc + 1), nopState.peek (nopState.cpu.pc + 2)] =
      .ok (.nop, [0x00, 0x00]) ∧ ∃ t, exec .nop nopState.fetched = .next t :=
  ⟨⟨rfl, rfl⟩, by decide, _, rfl⟩

theorem witness_StepOutcomes :
    nopState.runnable ∧ ({ nopState with fault := some .testWrite } : State).fault = some .testWrite := ⟨⟨rfl, rfl⟩, rfl⟩

/-- A step with a tick and one without. -/
theorem witness_ClockAndTicks :
    viewFrom (fun t => (t.clk, t.frame.isSome)) nopState = some (2, false) ∧
    viewFrom (fun t => (t.clk, t.frame.isSome)) tickState = some (32, true) := by decide +kernel

/-- Both sides of the I/O registers and of the IPL ROM window, mapped and unmapped; the values are R106's and R701's. -/
theorem witness_BusRead :
    ([0x00EF, 0x0100, 0xFFBF] : List Word).map State.reset.peek = [0x00, 0x00, 0x00] ∧
    ([0xFFC0, 0xFFFF] : List Word).map State.reset.peek = [0xCD, 0xFF] ∧
    State.reset.io.control.getLsbD 7 = true ∧ nopState.io.control.getLsbD 7 = false ∧
    ([0xFFC1, 0xFFFF] : List Word).map nopState.peek = [0x00, 0x00] ∧
    ∀ k : Fin 3, 0x00FC#16 ≠ 0x00FD + BitVec.ofNat 16 k ∧ 0x0100#16 ≠ 0x00FD + BitVec.ofNat 16 k := by decide

theorem witness_BusWriteMemory :
    (0x0000#16).toNat < 0xF0 ∧ (0x00EF#16).toNat < 0xF0 ∧ 0xFF < (0x0100#16).toNat ∧ 0xFF < (0xFFFF#16).toNat := by decide

/-- DSPADDR at 0x7F and at 0x80 (R114). -/
theorem witness_IoWrites :
    ({ State.reset.io with dspAddr := 0x7F } : Io).dspAddr.toNat < 128 ∧
    0x80 ≤ ({ State.reset.io with dspAddr := 0x80 } : Io).dspAddr.toNat := by decide

/-- `MOV 0xF0,#0x0B` writes TEST and faults (R110). -/
theorem witness_FaultCauses : ∃ t, exec (.movDpImm 0x0B 0xF0) State.reset = .next t ∧ t.fault = some .testWrite :=
  ⟨_, rfl, rfl⟩

theorem witness_InstructionsFrame : ∃ t, exec (.movDpImm 0x07 0xF1) State.reset = .next t ∧ t.io.control = 0x07 :=
  ⟨_, rfl, rfl⟩

theorem witness_FlagWriters : ∃ t, exec .setp State.reset = .next t ∧ t.flag .p = true := ⟨_, rfl, rfl⟩

theorem witness_ReturnsUndoCalls :
    (∃ t, exec .brk nopState = .next t) ∧ (∃ t, exec (.callAbs 0xFFFF) nopState = .next t) ∧
    (∃ t, exec (.pcall 0xFF) nopState = .next t) ∧ ∃ t, exec .tcall15 nopState = .next t :=
  ⟨⟨_, rfl⟩, ⟨_, rfl⟩, ⟨_, rfl⟩, ⟨_, rfl⟩⟩

theorem witness_SleepStop : (∃ t, exec .sleep nopState = .next t) ∧ ∃ t, exec .stop nopState = .next t :=
  ⟨⟨_, rfl⟩, ⟨_, rfl⟩⟩

theorem witness_StepKeepsInvariant : nopState.Inv ∧ (viewFrom (fun _ => ()) nopState).isSome = true :=
  ⟨nopState_inv, by decide⟩

theorem snapshot_length : snapshot.length = 0x10200 := by
  simp only [snapshot, List.length_append, List.length_replicate]; decide

theorem snapshot_signature : snapshot.take 27 = signature := List.take_left' (by decide)

theorem witness_HostKeepsInvariant : nopState.Inv ∧ ∃ t, nopState.load snapshot = .ok t :=
  ⟨nopState_inv, _, by
    unfold State.load
    rw [if_neg (by rw [snapshot_length, snapshot_signature]; decide), if_neg (by rw [snapshot_length]; decide)]⟩

/-- `load`'s three cases: no bytes, the signature alone, a whole snapshot. -/
theorem witness_Load :
    ¬ 27 ≤ ([] : List Byte).length ∧
    (27 ≤ signature.length ∧ signature.take 27 = signature ∧ signature.length < 0x10200) ∧
    27 ≤ snapshot.length ∧ snapshot.take 27 = signature ∧ 0x10200 ≤ snapshot.length :=
  ⟨by decide, by decide, by rw [snapshot_length]; decide, snapshot_signature, by rw [snapshot_length]⟩

/-- DIV's clauses by X and Y: Y < X, X = Y, the last Y below 2X, Y = 2X, X = 0 (R364). -/
theorem witness_MulDiv :
    (let c := cpu 0x00 0x10 0x0F 0 0 0; c.y.toNat < c.x.toNat ∧ c.y.toNat < 2 * c.x.toNat) ∧
    (let c := cpu 0x00 0x10 0x10 0 0 0; c.x.toNat ≤ c.y.toNat ∧ c.y.toNat < 2 * c.x.toNat) ∧
    (let c := cpu 0x00 0x10 0x1F 0 0 0; c.x.toNat ≤ c.y.toNat ∧ c.y.toNat < 2 * c.x.toNat) ∧
    (let c := cpu 0x00 0x10 0x20 0 0 0; 2 * c.x.toNat ≤ c.y.toNat) ∧
    (let c := cpu 0x34 0x00 0x12 0 0 0; c.x.toNat = 0 ∧ 2 * c.x.toNat ≤ c.y.toNat) := by decide

theorem witness_TimerPeriod :
    let s : State := { State.reset with io := { Io.reset with control := 0x07 } }
    ∀ k : Fin 3, s.io.control.getLsbD k = true ∧ s.io.tDiv[k] = 0 := by decide

theorem witness_RatePeriods :
    ∀ r ∈ ([1, 31] : List (Fin 32)), r ≠ 0 ∧ r.val < rateTable.length := by decide

theorem witness_Envelope : (voiceAt .attack 0x7FF).level ≤ 0x7FF ∧ (voiceAt .off 0).level ≤ 0x7FF := by decide

theorem witness_NoiseStep : (0x4000#15 ≠ 0 ∧ 0x0001#15 ≠ 0) ∧ 13 < 14 := by decide

theorem witness_BrrFilters : (∀ k ∈ [13, 15], 13 ≤ k) ∧ ∀ f ∈ [1, 3], f ≠ 0 := by decide

theorem witness_MuteDoesNotDisturb : State.reset.dsp.flg.getLsbD 5 = true := by decide

/-- A voice at level 0; a muted voice that sounds. -/
theorem witness_SilentVoice :
    (Dsp.reset.voice 7).level = 0 ∧ (0x01#8).getLsbD ((0 : Fin 8) : Nat) = true ∧
    ((mixState []).dsp.voice 0).level = 0x7F0 := by decide

/-- FLG after reset has bits 5 and 6 set; the bytes before and after the frame at 0x0000 are outside it. -/
theorem witness_TickRam :
    State.reset.dsp.flg.getLsbD 5 = true ∧ State.reset.dsp.flg.getLsbD 6 = true ∧
    ∀ a ∈ [4, 65535], ∀ k < 4, a ≠ (State.reset.dsp.esa.toNat * 256 + State.reset.dsp.echoOffset + k) % 65536 := by decide

theorem witness_EchoPosition : Dsp.reset.echoOffset = 0 ∧ (Dsp.reset.setReg 0x7D 0x0F).echoOffset = 0 := by decide

theorem witness_PlayEnds : tickState.runnable ∧ nopState.runnable := ⟨⟨rfl, rfl⟩, ⟨rfl, rfl⟩⟩

/-- A run of one step, whose tick emits the one frame asked for. -/
theorem witness_PlayComposes :
    tickState.runnable ∧ 2 % 2 = 0 ∧ (tickState.play 2).result = .ok ∧ (tickState.play 2).frames.length = 1 :=
  ⟨⟨rfl, rfl⟩, by decide, by decide +kernel, by decide +kernel⟩

end Sys2Proof.Tests
end

/-! The acts of an instruction: register writes, bus accesses and the record of its cycles. What every act keeps, every
instruction but SLEEP and STOP keeps. -/

namespace Sys2Proof.Machine

open Sys2Proof

/-- One act of an instruction that leaves the CPU running. -/
inductive Act : State → State → Prop
  | regs (s : State) (c : Cpu) (h : c.run = s.cpu.run) : Act s { s with cpu := c }
  | spend (s : State) (n : Nat) : Act s (s.spend n)
  | touch (s : State) (a : Word) : Act s (s.touch a)
  | dummyRead (s : State) (a : Word) : Act s (s.dummyRead a)
  | memWrite (s : State) (a : Word) (v : Byte) : Act s (s.memWrite a v)

/-- A sequence of acts. -/
abbrev Acts : State → State → Prop := Relation.ReflTransGen Act

namespace Acts

variable {s t : State} (h : Acts s t)
include h

/-- What holds at the start and is kept by every act holds at the end. -/
theorem induct {p : State → Prop} (hs : p s) (step : ∀ u v, Act u v → p u → p v) : p t := by
  induction h with
  | refl => exact hs
  | tail _ hact ih => exact step _ _ hact ih

theorem setA (v : Byte) : Acts s (t.setA v) := h.tail (.regs t _ rfl)
theorem setX (v : Byte) : Acts s (t.setX v) := h.tail (.regs t _ rfl)
theorem setY (v : Byte) : Acts s (t.setY v) := h.tail (.regs t _ rfl)
theorem setSp (v : Byte) : Acts s (t.setSp v) := h.tail (.regs t _ rfl)
theorem setPc (v : Word) : Acts s (t.setPc v) := h.tail (.regs t _ rfl)
theorem setPsw (v : Byte) : Acts s (t.setPsw v) := h.tail (.regs t _ rfl)
theorem setYA (w : Word) : Acts s (t.setYA w) := h.tail (.regs t _ rfl)
theorem spend (n : Nat) : Acts s (t.spend n) := h.tail (.spend t n)
theorem touch (a : Word) : Acts s (t.touch a) := h.tail (.touch t a)
theorem dummyRead (a : Word) : Acts s (t.dummyRead a) := h.tail (.dummyRead t a)
theorem memWrite (a : Word) (v : Byte) : Acts s (t.memWrite a v) := h.tail (.memWrite t a v)

theorem touchWord (a : Word) : Acts s (t.touchWord a) := (h.touch _).touch _
theorem touchDpWord (o : Byte) : Acts s (t.touchDpWord o) := (h.touch _).touch _
theorem passOperand : Acts s t.passOperand := (h.touch _).setPc _
theorem branch (rel : Byte) : Acts s (t.branch rel) := h.setPc _
theorem push8 (v : Byte) : Acts s (t.push8 v) := (h.memWrite _ v).setSp _
theorem push16 (w : Word) : Acts s (t.push16 w) := (h.push8 _).push8 _
theorem drop8 : Acts s t.drop8 := (h.touch _).setSp _
theorem drop16 : Acts s t.drop16 := h.drop8.drop8
theorem call (target : Word) : Acts s (t.call target) := (h.push16 _).setPc target
theorem callVector (vector : Word) : Acts s (t.callVector vector) := ((h.push16 _).touchWord vector).setPc _
theorem takeBreak : Acts s t.takeBreak := (((((h.push16 _).push8 _).setPsw _).setPsw _).touchWord _).setPc _
theorem returnFromBreak : Acts s t.returnFromBreak := ((h.drop8.setPsw _).drop16).setPc _

theorem branchIf (taken : Bool) (rel : Byte) (n : Nat) : Acts s (t.branchIf taken rel n) := by
  cases taken
  · exact h.spend n
  · exact (h.branch rel).spend (n + 2)

theorem passed (m : Mode) : Acts s (m.passed t) := by
  cases m with
  | ix | iy => exact h
  | dp | dpX | dpY | indX | indY => exact h.passOperand
  | abs | absX | absY => exact h.passOperand.passOperand

theorem pointed (m : Mode) : Acts s (m.pointed t) := by
  cases m with
  | indX | indY => exact h.touchDpWord _
  | ix | iy | dp | dpX | dpY | abs | absX | absY => exact h

theorem located (m : Mode) : Acts s (m.located t) := (h.passed m).pointed m
theorem readState (m : Mode) : Acts s (m.readState t) := (h.located m).touch _

end Acts

/-- Every instruction answers a next state: by a sequence of acts, but for SLEEP and STOP. Instructions whose meanings do
the same acts stand together. -/
theorem exec_answers (i : Instr) (s : State) :
    ∃ t, exec i s = .next t ∧ (Acts s t ∨ (i = .sleep ∧ t = (s.halt .sleeping .sleeping).spend 3) ∨
      (i = .stop ∧ t = (s.halt .stopped .stopped).spend 3)) := by
  have h : Acts s s := .refl
  cases i
  case sleep => exact ⟨_, rfl, .inr (.inl ⟨rfl, rfl⟩)⟩
  case stop => exact ⟨_, rfl, .inr (.inr ⟨rfl, rfl⟩)⟩
  all_goals refine ⟨_, rfl, .inl ?_⟩
  -- Results in a register, and stores.
  case orADp | orAAbs | orAIx | orAIndX | orADpX | orAAbsX | orAAbsY | orAIndY | andADp | andAAbs | andAIx |
      andAIndX | andADpX | andAAbsX | andAAbsY | andAIndY | eorADp | eorAAbs | eorAIx | eorAIndX | eorADpX |
      eorAAbsX | eorAAbsY | eorAIndY | adcADp | adcAAbs | adcAIx | adcAIndX | adcADpX | adcAAbsX | adcAAbsY |
      adcAIndY | sbcADp | sbcAAbs | sbcAIx | sbcAIndX | sbcADpX | sbcAAbsX | sbcAAbsY | sbcAIndY | movADp | movAAbs |
      movAIx | movAIndX | movADpX | movAAbsX | movAAbsY | movAIndY =>
    exact (((h.readState _).setA _).setPsw _).spend _
  case movXAbs | movXDp | movXDpY => exact (((h.readState _).setX _).setPsw _).spend _
  case movYDp | movYAbs | movYDpX => exact (((h.readState _).setY _).setPsw _).spend _
  case orAImm | andAImm | eorAImm | adcAImm | sbcAImm | movAImm => exact ((h.passOperand.setA _).setPsw _).spend _
  case movXImm => exact ((h.passOperand.setX _).setPsw _).spend _
  case movYImm => exact ((h.passOperand.setY _).setPsw _).spend _
  case aslA | rolA | lsrA | rorA | movAX | decA | xcn | incA | das | movAY | daa =>
    exact ((h.setA _).setPsw _).spend _
  case decX | incX | movXA | movXSp => exact ((h.setX _).setPsw _).spend _
  case decY | incY | movYA => exact ((h.setY _).setPsw _).spend _
  case movSpX => exact (h.setSp _).spend _
  case movDpA | movAbsA | movIxA | movIndXA | movAbsX | movDpY | movAbsY | movDpXA | movAbsXA | movAbsYA | movIndYA |
      movDpX | movDpYX | movDpXY =>
    exact (((h.located _).dummyRead _).memWrite _ _).spend _
  case movDpImm => exact (((h.passOperand.located _).dummyRead _).memWrite _ _).spend _
  case movDpDp => exact (((h.readState _).located _).memWrite _ _).spend _
  case movAIxInc => exact ((((h.readState _).setX _).setA _).setPsw _).spend _
  case movIxIncA => exact ((h.memWrite _ _).setX _).spend _
  -- Results in memory of two operands; compares and C from a bit.
  case orDpDp | orIxIy | andDpDp | andIxIy | eorDpDp | eorIxIy | adcDpDp | adcIxIy | sbcDpDp | sbcIxIy =>
    exact ((((h.readState _).readState _).memWrite _ _).setPsw _).spend _
  case orDpImm | andDpImm | eorDpImm | adcDpImm | sbcDpImm =>
    exact (((h.passOperand.readState _).memWrite _ _).setPsw _).spend _
  case or1CMb | cmpXAbs | or1CNotMb | cmpXDp | and1CMb | cmpYAbs | cmpADp | cmpAAbs | cmpAIx | cmpAIndX | and1CNotMb |
      cmpADpX | cmpAAbsX | cmpAAbsY | cmpAIndY | cmpYDp | eor1CMb | mov1CMb =>
    exact ((h.readState _).setPsw _).spend _
  case cmpAImm | cmpYImm | cmpXImm => exact (h.passOperand.setPsw _).spend _
  case cmpDpDp | cmpIxIy => exact (((h.readState _).readState _).setPsw _).spend _
  case cmpDpImm => exact ((h.passOperand.readState _).setPsw _).spend _
  -- Read-modify-write, bits and flags.
  case aslDp | aslAbs | aslDpX | rolDp | rolAbs | rolDpX | lsrDp | lsrAbs | lsrDpX | rorDp | rorAbs | rorDpX | decDp |
      decAbs | decDpX | incDp | incAbs | incDpX =>
    exact (((h.readState _).memWrite _ _).setPsw _).spend _
  case set1B0 | clr1B0 | set1B1 | clr1B1 | set1B2 | clr1B2 | set1B3 | clr1B3 | set1B4 | clr1B4 | set1B5 | clr1B5 |
      set1B6 | mov1MbC | clr1B6 | set1B7 | not1Mb | clr1B7 =>
    exact ((h.readState _).memWrite _ _).spend _
  case tset1Abs | tclr1Abs => exact (((h.readState _).setPsw _).memWrite _ _).spend _
  case clrp | setp | clrc | setc | ei | di | notc => exact (h.setPsw _).spend _
  case clrv => exact ((h.setPsw _).setPsw _).spend _
  -- Words, multiplication and division.
  case addwYADp | subwYADp | movwYADp => exact (((h.passOperand.touchDpWord _).setYA _).setPsw _).spend _
  case cmpwYADp => exact ((h.passOperand.touchDpWord _).setPsw _).spend _
  case movwDpYA => exact (((h.passOperand.dummyRead _).memWrite _ _).memWrite _ _).spend _
  case decwDp | incwDp => exact (((((h.passOperand.touch _).memWrite _ _).touch _).memWrite _ _).setPsw _).spend _
  case div | mul => exact ((h.setYA _).setPsw _).spend _
  -- Branches, jumps, calls and returns.
  case bpl | bmi | bvc | bvs | bcc | bcs | bne | beq => exact h.passOperand.branchIf _ _ _
  case bra => exact (h.passOperand.branch _).spend _
  case bbsB0 | bbcB0 | bbsB1 | cbneDp | bbcB1 | bbsB2 | bbcB2 | bbsB3 | bbcB3 | bbsB4 | bbcB4 | bbsB5 | bbcB5 |
      bbsB6 | bbcB6 | cbneDpX | bbsB7 | bbcB7 =>
    exact (h.readState _).passOperand.branchIf _ _ _
  case dbnzDp => exact ((h.readState _).memWrite _ _).passOperand.branchIf _ _ _
  case dbnzY => exact (h.passOperand.setY _).branchIf _ _ _
  case jmpAbs => exact (h.passOperand.passOperand.setPc _).spend _
  case jmpIndAbsX => exact ((h.passOperand.passOperand.touchWord _).setPc _).spend _
  case callAbs => exact (h.passOperand.passOperand.call _).spend _
  case pcall => exact (h.passOperand.call _).spend _
  case tcall0 | tcall1 | tcall2 | tcall3 | tcall4 | tcall5 | tcall6 | tcall7 | tcall8 | tcall9 | tcall10 | tcall11 |
      tcall12 | tcall13 | tcall14 | tcall15 =>
    exact (h.callVector _).spend _
  case brk => exact h.takeBreak.spend _
  case ret => exact (h.drop16.setPc _).spend _
  case reti => exact h.returnFromBreak.spend _
  -- The stack, NOP.
  case pushPsw | pushA | pushX | pushY => exact (h.push8 _).spend _
  case popA => exact (h.drop8.setA _).spend _
  case popX => exact (h.drop8.setX _).spend _
  case popY => exact (h.drop8.setY _).spend _
  case popPsw => exact (h.drop8.setPsw _).spend _
  case nop => exact h.spend _

/-- What an instruction that answers a next state can have done. -/
theorem exec_cases {i : Instr} {s t : State} (h : exec i s = .next t) :
    Acts s t ∨ (i = .sleep ∧ t = (s.halt .sleeping .sleeping).spend 3) ∨
      (i = .stop ∧ t = (s.halt .stopped .stopped).spend 3) := by
  obtain ⟨u, hu, hacts⟩ := exec_answers i s
  obtain rfl := Host.Outcome.next.inj (hu.symm.trans h)
  exact hacts

end Sys2Proof.Machine

/-! The frame of every instruction: what no bus access touches. -/

namespace Sys2Proof.Machine

open Sys2Proof

/-- Each timer divider is kept or cleared (R111, R664). -/
def DividersKept (s t : State) : Prop := ∀ k : Fin 3, t.io.tDiv[k] = s.io.tDiv[k] ∨ t.io.tDiv[k] = 0

theorem DividersKept.trans {s t u : State} (h : DividersKept s t) (h' : DividersKept t u) : DividersKept s u := by
  intro k
  rcases h' k with hk | hk
  · rw [hk]; exact h k
  · exact .inr hk

theorem dividersKept_of_eq {s t : State} (h : t.io.tDiv = s.io.tDiv) : DividersKept s t := fun k => .inl (by rw [h])

theorem dividersKept_startTimer (s : State) (v : Byte) (j : Fin 3) : DividersKept s (s.startTimer v j) := by
  unfold State.startTimer
  split
  · intro k
    by_cases h : (j : Nat) = k <;> simp [h]
  · exact dividersKept_of_eq rfl

theorem dividersKept_writeControl (s : State) (v : Byte) : DividersKept s (s.writeControl v) := by
  have h0 : DividersKept s { s with io := { s.io with cpuioIn := clearPorts v s.io.cpuioIn } } := dividersKept_of_eq rfl
  exact ((h0.trans (dividersKept_startTimer _ v 0)).trans (dividersKept_startTimer _ v 1)).trans
    (dividersKept_startTimer _ v 2)

/-- Only a CONTROL write acts on the timers (R111 to R120). -/
theorem dividersKept_ioWrite (s : State) (v : Byte) (r : IoReg) : DividersKept s (s.ioWrite v r) := by
  cases r with
  | control => exact dividersKept_writeControl s v
  | test | dspData =>
    simp only [State.ioWrite]
    split <;> exact dividersKept_of_eq rfl
  | dspAddr | cpuio | plain | tTarget | tOut => exact dividersKept_of_eq rfl

theorem dividersKept_memWrite (s : State) (a : Word) (v : Byte) : DividersKept s (s.memWrite a v) := by
  unfold State.memWrite
  split
  · exact dividersKept_ioWrite (s.setRam a v) v _
  · exact dividersKept_of_eq rfl

/-- Of the DSP a write acts on the registers and the key-on latch only (R72). -/
theorem State.ioWrite_dsp (s : State) (v : Byte) (r : IoReg) : (s.ioWrite v r).dsp =
    { s.dsp with regs := (s.ioWrite v r).dsp.regs, konLatch := (s.ioWrite v r).dsp.konLatch } := by
  cases r with
  | dspData =>
    simp only [State.ioWrite]
    split
    · exact Dsp.cpuWrite_eq ..
    · rfl
  | test =>
    simp only [State.ioWrite]
    split <;> rfl
  | control => simp [State.ioWrite]
  | dspAddr | cpuio | plain | tTarget | tOut => rfl

theorem State.memWrite_dsp (s : State) (a : Word) (v : Byte) : (s.memWrite a v).dsp =
    { s.dsp with regs := (s.memWrite a v).dsp.regs, konLatch := (s.memWrite a v).dsp.konLatch } := by
  unfold State.memWrite
  split
  · exact State.ioWrite_dsp (s.setRam a v) v _
  · rfl

/-- The frame of an instruction: the clock, the host's fields, the emitted frame and the DSP's internals but the key-on
latch stay; the timer dividers are kept or cleared. -/
structure InstrFrame (s t : State) : Prop where
  clk : t.clk = s.clk
  lifecycle : t.lifecycle = s.lifecycle
  muteMask : t.muteMask = s.muteMask
  frame : t.frame = s.frame
  dsp : t.dsp = { s.dsp with regs := t.dsp.regs, konLatch := t.dsp.konLatch }
  dividers : DividersKept s t

theorem InstrFrame.refl (s : State) : InstrFrame s s := ⟨rfl, rfl, rfl, rfl, rfl, dividersKept_of_eq rfl⟩

theorem InstrFrame.trans {s t u : State} (h : InstrFrame s t) (h' : InstrFrame t u) : InstrFrame s u where
  clk := h'.clk.trans h.clk
  lifecycle := h'.lifecycle.trans h.lifecycle
  muteMask := h'.muteMask.trans h.muteMask
  frame := h'.frame.trans h.frame
  dsp := h'.dsp.trans (by rw [h.dsp])
  dividers := h.dividers.trans h'.dividers

theorem instrFrame_of_act {s t : State} (h : Act s t) : InstrFrame s t := by
  cases h with
  | regs | spend => exact ⟨rfl, rfl, rfl, rfl, rfl, dividersKept_of_eq rfl⟩
  | touch | dummyRead => exact ⟨by simp, by simp, by simp, by simp, by simp, dividersKept_of_eq (by simp)⟩
  | memWrite a v => exact ⟨by simp, by simp, by simp, by simp, s.memWrite_dsp a v, dividersKept_memWrite s a v⟩

theorem exec_instrFrame {i : Instr} {s t : State} (h : exec i s = .next t) : InstrFrame s t := by
  rcases exec_cases h with hacts | ⟨-, rfl⟩ | ⟨-, rfl⟩
  · exact hacts.induct (.refl s) fun u v hact hu => hu.trans (instrFrame_of_act hact)
  · exact ⟨rfl, rfl, rfl, rfl, rfl, dividersKept_of_eq rfl⟩
  · exact ⟨rfl, rfl, rfl, rfl, rfl, dividersKept_of_eq rfl⟩

/-- Settles O39: every act keeps the frame, and SLEEP and STOP set `cpu_run`, the fault and the cycles only. -/
theorem instructionsFrame : Obligations.InstructionsFrame := by
  unfold Obligations.InstructionsFrame
  intro i s t h
  obtain ⟨hclk, hlifecycle, hmuteMask, hframe, hdsp, hdividers⟩ := exec_instrFrame h
  exact ⟨hclk, hlifecycle, hmuteMask, hframe, hdsp, hdividers⟩

end Sys2Proof.Machine

/-! The addresses of the operand forms as numbers (R10, R11). -/

namespace Sys2Proof.Machine

open Sys2Proof

@[simp] theorem State.flag_passOperand (s : State) (f : Flag) : s.passOperand.flag f = s.flag f := by
  simp [State.flag]

theorem State.toNat_dpAddr (s : State) (o : Byte) :
    (s.dpAddr o).toNat = (if s.flag .p = true then 256 else 0) + o.toNat := by
  rw [State.dpAddr, toNat_wordOf]
  split <;> simp

/-- An offset given as a number counts modulo 256 in its page (R10). -/
theorem State.dpAddr_ofNat (s : State) (n : Nat) :
    s.dpAddr (BitVec.ofNat 8 n) = BitVec.ofNat 16 ((if s.flag .p = true then 256 else 0) + n % 256) := by
  apply BitVec.eq_of_toNat_eq
  rw [State.toNat_dpAddr, BitVec.toNat_ofNat, BitVec.toNat_ofNat]
  split <;> omega

/-- A pointer: two direct-page bytes of one page, low byte read first (R10). -/
theorem State.toNat_dpWord (s : State) (n : Nat) :
    let byteAt (o : Nat) : Word := BitVec.ofNat 16 ((if s.flag .p = true then 256 else 0) + o % 256)
    (s.dpWord (BitVec.ofNat 8 n)).toNat =
      ((s.touch (byteAt n)).peek (byteAt (n + 1))).toNat * 256 + (s.peek (byteAt n)).toNat := by
  intro byteAt
  have hnext : BitVec.ofNat 8 n + 1 = BitVec.ofNat 8 (n + 1) := (BitVec.ofNat_add n 1).symm
  rw [State.dpWord, toNat_wordOf, hnext, State.dpAddr_ofNat, State.dpAddr_ofNat]

theorem toNat_add_zext16 (a : Word) (v : Byte) : (a + zext16 v).toNat = (a.toNat + v.toNat) % 65536 := by
  rw [zext16, BitVec.toNat_add, BitVec.toNat_setWidth_of_le (by decide)]

/-- The stack lies in page 1 (R11). -/
theorem toNat_stackAddr (sp : Byte) : (stackAddr sp).toNat = 256 + sp.toNat := by
  simp [stackAddr, toNat_wordOf]

/-- Settles O10: each form's address reduces to a direct-page sum, a word sum or a direct-page pointer. -/
theorem operandAddresses : Obligations.OperandAddresses := by
  unfold Obligations.OperandAddresses
  intro s d a page x y byteAt p pointer
  have hdp (o : Byte) : (s.dpAddr o).toNat = page + o.toNat := State.toNat_dpAddr s o
  have hptr (n : Nat) : (p.dpWord (BitVec.ofNat 8 n)).toNat = pointer n := by
    simpa only [p, State.flag_passOperand] using State.toNat_dpWord p n
  refine ⟨fun r hr => ⟨?_, rfl, rfl⟩, toNat_stackAddr _⟩
  simp only [List.mem_cons, List.not_mem_nil, or_false] at hr
  rcases hr with rfl | rfl | rfl | rfl | rfl | rfl | rfl | rfl | rfl | rfl
  -- The forms in the statement's order; `!a` needs no address arithmetic.
  all_goals simp only [Mode.addr, Mode.ea, Mode.passed, State.dpAddr_passOperand, State.passOperand_cpu_x,
    State.passOperand_cpu_y]
  · exact hdp s.cpu.x
  · exact hdp s.cpu.y
  · exact hdp d
  · exact (hdp (d + s.cpu.x)).trans (by rw [BitVec.toNat_add])
  · exact (hdp (d + s.cpu.y)).trans (by rw [BitVec.toNat_add])
  · exact toNat_add_zext16 a s.cpu.x
  · exact toNat_add_zext16 a s.cpu.y
  · rw [BitVec.add_def]
    exact hptr (d.toNat + s.cpu.x.toNat)
  · rw [toNat_add_zext16, ← hptr, BitVec.ofNat_toNat, BitVec.setWidth_eq]

end Sys2Proof.Machine

/-! Branches on a flag. -/

namespace Sys2Proof.Machine

open Sys2Proof Sys2Proof.Claims

/-- A read changes timer counters only (R121). -/
theorem State.touch_io (s : State) (a : Word) : (s.touch a).io = { s.io with tOut := (s.touch a).io.tOut } := by
  unfold State.touch; split <;> rfl

theorem quiet_touch (s : State) (a : Word) : Quiet s (s.touch a) := by
  refine ⟨?_, s.touch_io a, ?_⟩ <;> simp

theorem quiet_passOperand (s : State) : Quiet s s.passOperand :=
  quiet_touch s s.cpu.pc

theorem quiet_branchIf {s t : State} (h : Quiet s t) (taken : Bool) (rel : Byte) (n : Nat) :
    Quiet s (t.branchIf taken rel n) := by
  cases taken <;> exact h

/-- A displacement is a signed number added modulo 65536 (R13). -/
theorem add_sext16 (pc k : Word) (rel : Byte) :
    pc + k + sext16 rel = BitVec.ofInt 16 ((pc.toNat : Int) + k.toNat + rel.toInt) := by
  rw [BitVec.ofInt_add, BitVec.ofInt_add]
  simp [sext16, BitVec.signExtend]

theorem State.branchIf_cpu (s : State) (taken : Bool) (rel : Byte) (n : Nat) :
    (s.branchIf taken rel n).cpu = { s.cpu with pc := if taken then s.cpu.pc + sext16 rel else s.cpu.pc } := by
  cases taken <;> rfl

/-- What a branch of two bytes does once its displacement is fetched (R13). -/
theorem branches_of_exec {i : Instr} {s : State} {taken : Bool} {rel : Byte}
    (h : exec i s = .next (s.passOperand.branchIf taken rel 2)) :
    ∃ t, exec i s = .next t ∧
      t.cpu = { s.cpu with
        pc := if taken then BitVec.ofInt 16 ((s.cpu.pc.toNat : Int) + 1 + rel.toInt) else s.cpu.pc + 1 } ∧
      Quiet s t ∧ t.io = s.passOperand.io ∧ t.cycles = if taken then 4 else 2 := by
  refine ⟨_, h, ?_, quiet_branchIf (quiet_passOperand s) taken rel 2, State.branchIf_io .., State.branchIf_cycles ..⟩
  rw [State.branchIf_cpu, State.passOperand_cpu]
  exact congrArg (fun w => { s.cpu with pc := if taken then w else s.cpu.pc + 1 }) (add_sext16 s.cpu.pc 1 rel)

theorem branchFlag_set (f : Flag) (rel : Byte) (s : State) :
    branchFlag f true rel s = .next (s.passOperand.branchIf (s.flag f) rel 2) := by
  simp [branchFlag]

theorem branchFlag_clear (f : Flag) (rel : Byte) (s : State) :
    branchFlag f false rel s = .next (s.passOperand.branchIf (!s.flag f) rel 2) := by
  simp [branchFlag]

/-- Settles O31: BRA is a branch that is always taken, the others test their flag. -/
theorem flagBranches : Obligations.FlagBranches := by
  unfold Obligations.FlagBranches
  intro rel s r hr
  simp only [List.mem_cons, List.not_mem_nil, or_false] at hr
  rcases hr with rfl | rfl | rfl | rfl | rfl | rfl | rfl | rfl | rfl
  all_goals dsimp only
  · exact ⟨rfl, branches_of_exec (show exec (.bra rel) s = .next (s.passOperand.branchIf true rel 2) from rfl)⟩
  · exact ⟨rfl, branches_of_exec (branchFlag_set .z rel s)⟩
  · exact ⟨rfl, branches_of_exec (branchFlag_clear .z rel s)⟩
  · exact ⟨rfl, branches_of_exec (branchFlag_set .c rel s)⟩
  · exact ⟨rfl, branches_of_exec (branchFlag_clear .c rel s)⟩
  · exact ⟨rfl, branches_of_exec (branchFlag_set .v rel s)⟩
  · exact ⟨rfl, branches_of_exec (branchFlag_clear .v rel s)⟩
  · exact ⟨rfl, branches_of_exec (branchFlag_set .n rel s)⟩
  · exact ⟨rfl, branches_of_exec (branchFlag_clear .n rel s)⟩

end Sys2Proof.Machine

/-! Calls and returns: a return pops what the call pushed. -/

namespace Sys2Proof.Machine

open Sys2Proof

/-- R410. -/
theorem exec_ret (s : State) : exec .ret s = .next { s with
    cpu := { s.cpu with
      sp := s.cpu.sp + 1 + 1
      pc := wordOf (s.ram.read (stackAddr (s.cpu.sp + 1 + 1)).toNat) (s.ram.read (stackAddr (s.cpu.sp + 1)).toNat) }
    cycles := 5 } := by
  show Host.Outcome.next ((s.drop16.setPc s.top16).spend 5) = _
  simp only [State.top16, State.top8_eq, State.drop16, State.drop8_eq, State.setSp, State.setPc, State.spend]

/-- R411. -/
theorem exec_reti (s : State) : exec .reti s = .next { s with
    cpu := { s.cpu with
      sp := s.cpu.sp + 1 + 1 + 1
      psw := s.ram.read (stackAddr (s.cpu.sp + 1)).toNat
      pc := wordOf (s.ram.read (stackAddr (s.cpu.sp + 1 + 1 + 1)).toNat)
        (s.ram.read (stackAddr (s.cpu.sp + 1 + 1)).toNat) }
    cycles := 6 } := by
  show Host.Outcome.next (s.returnFromBreak.spend 6) = _
  simp only [State.returnFromBreak, State.top16, State.top8_eq, State.drop16, State.drop8_eq,
    State.setSp, State.setPsw, State.setPc, State.spend]

/-- The byte pushed last is on top of the stack (R11). -/
theorem State.read_push8_same (s : State) (v : Byte) : (s.push8 v).ram.read (stackAddr s.cpu.sp).toNat = v := by
  rw [State.push8_eq]
  exact Memory.read_write_same ..

/-- A push keeps every other byte of the stack page (R11). -/
theorem State.read_push8_ne (s : State) (v : Byte) {q : Byte} (h : q ≠ s.cpu.sp) :
    (s.push8 v).ram.read (stackAddr q).toNat = s.ram.read (stackAddr q).toNat := by
  rw [State.push8_eq]
  exact Memory.read_write_ne _ _ (mt stackAddr_inj.1 h)

theorem State.read_push16_high (s : State) (w : Word) :
    (s.push16 w).ram.read (stackAddr s.cpu.sp).toNat = hiByte w := by
  have hne : s.cpu.sp ≠ (s.push8 (hiByte w)).cpu.sp := by rw [State.push8_cpu]; bv_omega
  rw [State.push16, State.read_push8_ne _ _ hne, State.read_push8_same]

theorem State.read_push16_low (s : State) (w : Word) :
    (s.push16 w).ram.read (stackAddr (s.cpu.sp - 1)).toNat = loByte w := by
  have h := (s.push8 (hiByte w)).read_push8_same (loByte w)
  rwa [State.push8_cpu] at h

/-- RET in a state where `u`'s PC lies on top of the stack (R410). -/
theorem ret_undoes_push16 {u t : State} (hcpu : t.cpu = { u.cpu with sp := u.cpu.sp - 1 - 1, pc := t.cpu.pc })
    (hram : t.ram = (u.push16 u.cpu.pc).ram) :
    exec .ret t = .next { t with cpu := u.cpu, cycles := 5 } := by
  rw [exec_ret, hcpu, hram]
  simp only [sub_add_cancel, State.read_push16_high, State.read_push16_low, wordOf_hiByte_loByte]

theorem ret_undoes_call {u t : State} {target : Word} {n : Nat} (h : t = (u.call target).spend n) :
    exec .ret t = .next { t with cpu := u.cpu, cycles := 5 } := by
  subst h
  exact ret_undoes_push16 (by simp [State.call, State.setPc]) rfl

theorem ret_undoes_callVector {u t : State} {vector : Word} {n : Nat} (h : t = (u.callVector vector).spend n) :
    exec .ret t = .next { t with cpu := u.cpu, cycles := 5 } := by
  subst h
  exact ret_undoes_push16 (by simp [State.callVector, State.setPc]) (by simp [State.callVector])

/-- What BRK leaves on the stack, from its top: PSW, then PC, low byte above high byte (R409). -/
theorem State.read_takeBreak (s : State) :
    s.takeBreak.ram.read (stackAddr (s.cpu.sp - 1 - 1)).toNat = s.cpu.psw ∧
      s.takeBreak.ram.read (stackAddr (s.cpu.sp - 1)).toNat = loByte s.cpu.pc ∧
      s.takeBreak.ram.read (stackAddr s.cpu.sp).toNat = hiByte s.cpu.pc := by
  have hram : s.takeBreak.ram = ((s.push16 s.cpu.pc).push8 s.cpu.psw).ram := by simp [State.takeBreak]
  have hsp : (s.push16 s.cpu.pc).cpu.sp = s.cpu.sp - 1 - 1 := by rw [State.push16_cpu]
  have hlow : s.cpu.sp - 1 ≠ (s.push16 s.cpu.pc).cpu.sp := by rw [hsp]; bv_omega
  have hhigh : s.cpu.sp ≠ (s.push16 s.cpu.pc).cpu.sp := by rw [hsp]; bv_omega
  rw [hram, ← hsp, State.read_push8_same, State.read_push8_ne _ _ hlow, State.read_push8_ne _ _ hhigh]
  exact ⟨rfl, s.read_push16_low _, s.read_push16_high _⟩

theorem reti_undoes_takeBreak {s t : State} {n : Nat} (h : t = s.takeBreak.spend n) :
    exec .reti t = .next { t with cpu := s.cpu, cycles := 6 } := by
  subst h
  obtain ⟨hpsw, hlow, hhigh⟩ := s.read_takeBreak
  have hsp : s.takeBreak.cpu.sp = s.cpu.sp - 1 - 1 - 1 := by simp [State.takeBreak]
  rw [exec_reti]
  simp only [State.spend_cpu, State.spend_ram, hsp, sub_add_cancel, hpsw, hlow, hhigh, wordOf_hiByte_loByte]
  simp [State.takeBreak]

/-- Settles O36: the pops read what the pushes left on the stack. -/
theorem returnsUndoCalls : Obligations.ReturnsUndoCalls := by
  unfold Obligations.ReturnsUndoCalls
  intro s t
  refine ⟨fun h => ?_, fun a h => ?_, fun u h => ?_, fun i hi h => ?_⟩
  · exact reti_undoes_takeBreak (Host.Outcome.next.inj h).symm
  · rw [ret_undoes_call (Host.Outcome.next.inj h).symm]
    simp [State.passOperand_cpu, add_assoc]
  · rw [ret_undoes_call (Host.Outcome.next.inj h).symm, State.passOperand_cpu]
  · simp only [List.mem_cons, List.not_mem_nil, or_false] at hi
    rcases hi with rfl | rfl | rfl | rfl | rfl | rfl | rfl | rfl | rfl | rfl | rfl | rfl | rfl | rfl | rfl | rfl
    all_goals exact ret_undoes_callVector (Host.Outcome.next.inj h).symm

end Sys2Proof.Machine

/-! The step. -/

namespace Sys2Proof.Machine

open Sys2Proof

/-- Settles O5: the fetch is one operand byte passed, and in a runnable state `step` is `exec` and then the clock. -/
theorem stepRunsDecoded : Obligations.StepRunsDecoded := by
  unfold Obligations.StepRunsDecoded
  intro s t i rest ⟨hfault, hrun⟩ hdec
  refine ⟨State.passOperand_cpu s, rfl, fun hexec => ?_⟩
  simp only [step, hfault, hrun, State.fetchBytes, hdec, hexec]

end Sys2Proof.Machine

/-! What stores, calls and the halt do to PSW, the fault and TEST (R11, R110, R406 to R408). -/

namespace Sys2Proof.Machine

open Sys2Proof

/-- TEST is the register at 0x00F0 (R110). -/
theorem ioReg_eq_test {a : Word} : ioReg a = some .test ↔ a = 0x00F0 := by
  have hfirst : ∀ k < 16, ioRegs[k]? = some .test → k = 0 := by decide
  constructor
  · intro h
    obtain ⟨hlt, -⟩ := List.getElem?_eq_some_iff.1 h
    have hzero := hfirst _ hlt h
    bv_omega
  · rintro rfl
    rfl

/-- A register's effect raises a fault for a TEST write of another value than 0x0A only (R110). -/
theorem State.ioWrite_fault (s : State) (v : Byte) (r : IoReg) :
    (s.ioWrite v r).fault = if r = .test ∧ v ≠ 0x0A then some .testWrite else s.fault := by
  cases r with
  | test =>
    by_cases hv : v = 0x0A
    · subst hv
      rfl
    · exact (congrArg State.fault (if_neg hv)).trans (if_pos ⟨rfl, hv⟩).symm
  | control => simp [State.ioWrite]
  | dspData =>
    simp only [State.ioWrite]
    split <;> rfl
  | dspAddr | cpuio | plain | tTarget | tOut => rfl

/-- A store raises a fault when it is a TEST write of another value than 0x0A only (R110). -/
theorem State.memWrite_fault (s : State) (a : Word) (v : Byte) :
    (s.memWrite a v).fault = if a = 0x00F0 ∧ v ≠ 0x0A then some .testWrite else s.fault := by
  simp only [← ioReg_eq_test]
  unfold State.memWrite
  split
  · next r hr => simp [hr, State.ioWrite_fault]
  · next hr => simp [hr]

/-- TEST takes no value but 0x0A (R42, R110). -/
theorem State.ioWrite_io_test {s : State} (h : s.io.test = 0x0A) (v : Byte) (r : IoReg) :
    (s.ioWrite v r).io.test = 0x0A := by
  cases r with
  | test =>
    simp only [State.ioWrite]
    split
    · rfl
    · exact h
  | dspData =>
    simp only [State.ioWrite]
    split <;> exact h
  | control => simpa [State.ioWrite, State.writeControl] using h
  | dspAddr | cpuio | plain | tTarget | tOut => exact h

theorem State.memWrite_io_test {s : State} (h : s.io.test = 0x0A) (a : Word) (v : Byte) :
    (s.memWrite a v).io.test = 0x0A := by
  unfold State.memWrite
  split
  · exact State.ioWrite_io_test (s := s.setRam a v) h v _
  · exact h

section
variable (s : State)

/-! No stack address is TEST's (R11). -/

@[simp] theorem State.push8_fault (v : Byte) : (s.push8 v).fault = s.fault := by
  rw [State.push8_eq]
  rfl
@[simp] theorem State.push16_fault (v : Word) : (s.push16 v).fault = s.fault := by simp [State.push16]

@[simp] theorem State.call_fault (target : Word) : (s.call target).fault = s.fault := by simp [State.call]
@[simp] theorem State.call_cpu_psw (target : Word) : (s.call target).cpu.psw = s.cpu.psw := by simp [State.call]
@[simp] theorem State.callVector_fault (vector : Word) : (s.callVector vector).fault = s.fault := by
  simp [State.callVector]
@[simp] theorem State.callVector_cpu_psw (vector : Word) : (s.callVector vector).cpu.psw = s.cpu.psw := by
  simp [State.callVector]
@[simp] theorem State.takeBreak_fault : s.takeBreak.fault = s.fault := by simp [State.takeBreak]
@[simp] theorem State.takeBreak_cpu_psw :
    s.takeBreak.cpu.psw = setFlag (setFlag s.cpu.psw .b true) .i false := by simp [State.takeBreak]
@[simp] theorem State.returnFromBreak_fault : s.returnFromBreak.fault = s.fault := by simp [State.returnFromBreak]
@[simp] theorem State.halt_cpu_psw (run : CpuRun) (r : EmuFault) : (s.halt run r).cpu.psw = s.cpu.psw := rfl

end

end Sys2Proof.Machine

/-! What every act keeps of `cpu_run`, TEST and a fault (R39, R42, R640). -/

namespace Sys2Proof.Machine

open Sys2Proof

theorem Act.cpu_run {s t : State} (h : Act s t) : t.cpu.run = s.cpu.run := by
  cases h with
  | regs c hrun => exact hrun
  | spend => rfl
  | touch | dummyRead | memWrite => simp

theorem Act.io_test {s t : State} (h : Act s t) (htest : s.io.test = 0x0A) : t.io.test = 0x0A := by
  cases h with
  | regs | spend => exact htest
  | touch | dummyRead => simpa using htest
  | memWrite a v => exact State.memWrite_io_test htest a v

/-- No act clears a fault (R640). -/
theorem Act.fault_ne_none {s t : State} (h : Act s t) (hfault : s.fault ≠ none) : t.fault ≠ none := by
  cases h with
  | regs | spend => exact hfault
  | touch | dummyRead => simpa using hfault
  | memWrite a v =>
    rw [State.memWrite_fault]
    split
    · nofun
    · exact hfault

end Sys2Proof.Machine

/-! The flags an instruction writes (R37). -/

namespace Sys2Proof.Machine

open Sys2Proof Sys2Proof.Claims

/-- Every flag outside `fs` has in `q` the value it has in `p`. -/
def FlagsKeptBut (fs : List Flag) (p q : Byte) : Prop := ∀ f, f ∉ fs → getFlag q f = getFlag p f

/-- The flags of a result and its carry, which most instructions write at most. -/
abbrev resultFlags : List Flag := [.n, .z, .c]

/-- The flags of an addition, a subtraction or a division (R279, R280, R360, R361, R364). -/
abbrev arithFlags : List Flag := [.n, .z, .c, .v, .h]

namespace FlagsKeptBut

variable {fs : List Flag} {p q : Byte}

@[simp] theorem refl (fs : List Flag) (p : Byte) : FlagsKeptBut fs p p := fun _ _ => rfl

theorem setFlag (h : FlagsKeptBut fs p q) {f : Flag} (hf : f ∈ fs) (x : Bool) : FlagsKeptBut fs p (setFlag q f x) := by
  intro g hg
  rw [getFlag_setFlag, if_neg fun (hgf : g = f) => hg (hgf ▸ hf)]
  exact h g hg

theorem setNZ8 (h : FlagsKeptBut fs p q) (hn : .n ∈ fs) (hz : .z ∈ fs) (v : Byte) : FlagsKeptBut fs p (setNZ8 q v) :=
  (h.setFlag hn _).setFlag hz _

theorem setNZ16 (h : FlagsKeptBut fs p q) (hn : .n ∈ fs) (hz : .z ∈ fs) (v : Word) : FlagsKeptBut fs p (setNZ16 q v) :=
  (h.setFlag hn _).setFlag hz _

end FlagsKeptBut

/-! The operations that write N, Z and C at most. -/

section
variable (p a b : Byte)

@[simp] theorem setFlag_c_kept (x : Bool) : FlagsKeptBut resultFlags p (setFlag p .c x) :=
  (FlagsKeptBut.refl _ p).setFlag (by decide) x
@[simp] theorem setNZ8_kept : FlagsKeptBut resultFlags p (setNZ8 p a) :=
  (FlagsKeptBut.refl _ p).setNZ8 (by decide) (by decide) a
@[simp] theorem setNZ16_kept (w : Word) : FlagsKeptBut resultFlags p (setNZ16 p w) :=
  (FlagsKeptBut.refl _ p).setNZ16 (by decide) (by decide) w
theorem setCNZ8_kept (x : Bool) : FlagsKeptBut resultFlags p (setNZ8 (setFlag p .c x) a) :=
  (setFlag_c_kept p x).setNZ8 (by decide) (by decide) a

@[simp] theorem or8_kept : FlagsKeptBut resultFlags p (or8 p a b).2 := setNZ8_kept p _
@[simp] theorem and8_kept : FlagsKeptBut resultFlags p (and8 p a b).2 := setNZ8_kept p _
@[simp] theorem eor8_kept : FlagsKeptBut resultFlags p (eor8 p a b).2 := setNZ8_kept p _
@[simp] theorem cmp8_kept : FlagsKeptBut resultFlags p (cmp8 p a b) := setCNZ8_kept p _ _
@[simp] theorem asl8_kept : FlagsKeptBut resultFlags p (asl8 p a).2 := setCNZ8_kept p _ _
@[simp] theorem rol8_kept : FlagsKeptBut resultFlags p (rol8 p a).2 := setCNZ8_kept p _ _
@[simp] theorem lsr8_kept : FlagsKeptBut resultFlags p (lsr8 p a).2 := setCNZ8_kept p _ _
@[simp] theorem ror8_kept : FlagsKeptBut resultFlags p (ror8 p a).2 := setCNZ8_kept p _ _
@[simp] theorem inc8_kept : FlagsKeptBut resultFlags p (inc8 p a).2 := setNZ8_kept p _
@[simp] theorem dec8_kept : FlagsKeptBut resultFlags p (dec8 p a).2 := setNZ8_kept p _
@[simp] theorem xcn8_kept : FlagsKeptBut resultFlags p (xcn8 p a).2 := setNZ8_kept p _
@[simp] theorem testFlags_kept : FlagsKeptBut resultFlags p (testFlags p a b) := setNZ8_kept p _
@[simp] theorem mul8_kept : FlagsKeptBut resultFlags p (mul8 p a b).2 := setNZ8_kept p _
@[simp] theorem cmpw16_kept (ya w : Word) : FlagsKeptBut resultFlags p (cmpw16 p ya w) :=
  (setFlag_c_kept p _).setNZ16 (by decide) (by decide) _

@[simp] theorem daa8_kept : FlagsKeptBut resultFlags p (daa8 p a).2 := by
  refine FlagsKeptBut.setNZ8 ?_ (by decide) (by decide) _
  split
  · exact setFlag_c_kept p true
  · exact .refl _ p

@[simp] theorem das8_kept : FlagsKeptBut resultFlags p (das8 p a).2 := by
  refine FlagsKeptBut.setNZ8 ?_ (by decide) (by decide) _
  split
  · exact setFlag_c_kept p false
  · exact .refl _ p

/-! The operations that write V and H too. -/

@[simp] theorem adc8_kept : FlagsKeptBut arithFlags p (adc8 p a b).2 :=
  ((((FlagsKeptBut.refl _ p).setFlag (by decide) _).setFlag (by decide) _).setFlag (by decide) _).setNZ8 (by decide)
    (by decide) _
@[simp] theorem sbc8_kept : FlagsKeptBut arithFlags p (sbc8 p a b).2 := adc8_kept p a _
@[simp] theorem addw16_kept (ya w : Word) : FlagsKeptBut arithFlags p (addw16 p ya w).2 :=
  ((((FlagsKeptBut.refl _ p).setFlag (by decide) _).setFlag (by decide) _).setFlag (by decide) _).setNZ16 (by decide)
    (by decide) _
@[simp] theorem subw16_kept (ya w : Word) : FlagsKeptBut arithFlags p (subw16 p ya w).2 :=
  ((((FlagsKeptBut.refl _ p).setFlag (by decide) _).setFlag (by decide) _).setFlag (by decide) _).setNZ16 (by decide)
    (by decide) _
@[simp] theorem div8_kept (x : Byte) : FlagsKeptBut arithFlags p (div8 p a b x).2 :=
  (((FlagsKeptBut.refl _ p).setFlag (by decide) _).setFlag (by decide) _).setNZ8 (by decide) (by decide) _

end

/-- The forms of ADC and SBC. -/
def IsAdcSbc (i : Instr) : Prop :=
  (∃ d a, ∃ r ∈ adcARows d a ++ sbcARows d a, i = r.instr) ∨ ∃ d e, ∃ r ∈ adcMemRows d e ++ sbcMemRows d e, i = r.instr

/-- The flags an instruction may write. -/
inductive MayWrite : Instr → List Flag → Prop
  | result (i : Instr) : MayWrite i resultFlags
  | adcSbc {i : Instr} (h : IsAdcSbc i) : MayWrite i arithFlags
  | addw (d : Byte) : MayWrite (.addwYADp d) arithFlags
  | subw (d : Byte) : MayWrite (.subwYADp d) arithFlags
  | div : MayWrite .div arithFlags
  | clrv : MayWrite .clrv arithFlags
  | page {i : Instr} (h : i ∈ [.setp, .clrp]) : MayWrite i [.p]
  | interrupt {i : Instr} (h : i ∈ [.ei, .di]) : MayWrite i [.i]
  | brk : MayWrite .brk [.b, .i]
  | pulled {i : Instr} (h : i ∈ [.popPsw, .reti]) : MayWrite i [.p, .b, .i, .v, .h, .n, .z, .c]

namespace MayWrite

variable {i : Instr} {fs : List Flag} (h : MayWrite i fs)
include h

theorem writer_p (hp : .p ∈ fs) : i ∈ ([.setp, .clrp, .popPsw, .reti] : List Instr) := by
  cases h with
  | page hi => exact List.mem_append_left [.popPsw, .reti] hi
  | pulled hi => exact List.mem_append_right [.setp, .clrp] hi
  | result | adcSbc | addw | subw | div | clrv | interrupt | brk => exact absurd hp (by decide)

theorem writer_b (hb : .b ∈ fs) : i ∈ ([.brk, .popPsw, .reti] : List Instr) := by
  cases h with
  | brk => exact List.mem_cons_self
  | pulled hi => exact List.mem_cons_of_mem _ hi
  | result | adcSbc | addw | subw | div | clrv | page | interrupt => exact absurd hb (by decide)

theorem writer_i (hintr : .i ∈ fs) : i ∈ ([.ei, .di, .brk, .popPsw, .reti] : List Instr) := by
  cases h with
  | interrupt hi => exact List.mem_append_left [.brk, .popPsw, .reti] hi
  | brk => decide
  | pulled hi => exact List.mem_append_right [.ei, .di, .brk] hi
  | result | adcSbc | addw | subw | div | clrv | page => exact absurd hintr (by decide)

theorem writer_vh (hvh : .v ∈ fs ∨ .h ∈ fs) :
    i ∈ ([.div, .clrv, .popPsw, .reti] : List Instr) ∨ (∃ d, i = .addwYADp d ∨ i = .subwYADp d) ∨ IsAdcSbc i := by
  cases h with
  | adcSbc hi => exact .inr (.inr hi)
  | addw d => exact .inr (.inl ⟨d, .inl rfl⟩)
  | subw d => exact .inr (.inl ⟨d, .inr rfl⟩)
  | div | clrv => exact .inl (by decide)
  | pulled hi => exact .inl (List.mem_append_right [Instr.div, Instr.clrv] hi)
  | result | page | interrupt | brk => exact absurd hvh (by decide)

end MayWrite

/-- Every instruction keeps the flags it may not write: its PSW is the old one, a popped one, or the old one after a flag
write or an operation of the rules. -/
theorem exec_flags (i : Instr) (s : State) :
    ∃ t fs, exec i s = .next t ∧ MayWrite i fs ∧ FlagsKeptBut fs s.cpu.psw t.cpu.psw := by
  cases i
  case setp | clrp =>
    exact ⟨_, _, rfl, .page (by decide), (FlagsKeptBut.refl _ _).setFlag (by decide) _⟩
  case ei | di =>
    exact ⟨_, _, rfl, .interrupt (by decide), (FlagsKeptBut.refl _ _).setFlag (by decide) _⟩
  case brk =>
    refine ⟨_, _, rfl, .brk, ?_⟩
    rw [State.spend_cpu, State.takeBreak_cpu_psw]
    exact ((FlagsKeptBut.refl _ _).setFlag (by decide) _).setFlag (by decide) _
  case popPsw | reti =>
    exact ⟨_, _, rfl, .pulled (by decide), fun f hf => absurd hf (by cases f <;> decide)⟩
  case adcADp | adcAAbs | adcAIx | adcAIndX | adcAImm | adcDpDp | adcADpX | adcAAbsX | adcAAbsY | adcAIndY | adcDpImm |
      adcIxIy | sbcADp | sbcAAbs | sbcAIx | sbcAIndX | sbcAImm | sbcDpDp | sbcADpX | sbcAAbsX | sbcAAbsY | sbcAIndY |
      sbcDpImm | sbcIxIy =>
    refine ⟨_, _, rfl, .adcSbc ?_, by simp⟩
    simp [IsAdcSbc, adcARows, sbcARows, accRows, adcMemRows, sbcMemRows, memRows]
  case addwYADp d => exact ⟨_, _, rfl, .addw d, by simp⟩
  case subwYADp d => exact ⟨_, _, rfl, .subw d, by simp⟩
  case div => exact ⟨_, _, rfl, .div, by simp⟩
  case clrv =>
    exact ⟨_, _, rfl, .clrv, ((FlagsKeptBut.refl _ _).setFlag (by decide) _).setFlag (by decide) _⟩
  -- Every other instruction leaves PSW alone or puts there what an operation of the first kind makes of it.
  all_goals exact ⟨_, _, rfl, .result _, by simp⟩

/-- Settles O40: a flag is kept, or the instruction is one that may write it. -/
theorem flagWriters : Obligations.FlagWriters := by
  unfold Obligations.FlagWriters
  intro i s t h
  obtain ⟨u, fs, hu, hmay, hkept⟩ := exec_flags i s
  obtain rfl := Host.Outcome.next.inj (hu.symm.trans h)
  have hcases (f : Flag) : u.flag f = s.flag f ∨ f ∈ fs := (em (f ∈ fs)).symm.imp_left (hkept f)
  refine ⟨(hcases .p).imp_right hmay.writer_p, (hcases .b).imp_right hmay.writer_b,
    (hcases .i).imp_right hmay.writer_i, ?_⟩
  rcases hcases .v, hcases .h with ⟨hv | hv, hh | hh⟩
  · exact .inl ⟨hv, hh⟩
  · exact .inr (hmay.writer_vh (.inr hh))
  · exact .inr (hmay.writer_vh (.inl hv))
  · exact .inr (hmay.writer_vh (.inl hv))

end Sys2Proof.Machine

/-! The causes of a fault (R640). -/

namespace Sys2Proof.Machine

open Sys2Proof

/-- What a TEST write may do to the fault: leave it, or set it and leave another value than 0x0A in RAM (R110). -/
def FaultByTest (s t : State) : Prop :=
  t.fault = s.fault ∨ t.fault = some .testWrite ∧ t.ram.read 0x00F0 ≠ 0x0A

theorem FaultByTest.of_eq {s t u : State} (h : FaultByTest s u) (hfault : t.fault = u.fault) (hram : t.ram = u.ram) :
    FaultByTest s t := by
  unfold FaultByTest
  rw [hfault, hram]
  exact h

namespace FaultByTest

variable {s t : State} (h : FaultByTest s t)
include h

theorem setPsw (v : Byte) : FaultByTest s (t.setPsw v) := h
theorem setX (v : Byte) : FaultByTest s (t.setX v) := h
theorem spend (n : Nat) : FaultByTest s (t.spend n) := h
theorem touch (a : Word) : FaultByTest s (t.touch a) := h.of_eq (by simp) (by simp)
theorem passOperand : FaultByTest s t.passOperand := h.touch _
theorem branchIf (taken : Bool) (rel : Byte) (n : Nat) : FaultByTest s (t.branchIf taken rel n) :=
  h.of_eq (by simp) (by simp)

/-- A store elsewhere than TEST leaves the value there that raised a fault. -/
theorem memWrite_of_ne {a : Word} (ha : a ≠ 0x00F0) (v : Byte) : FaultByTest s (t.memWrite a v) := by
  have hfault : (t.memWrite a v).fault = t.fault := by rw [State.memWrite_fault, if_neg fun hc => ha hc.1]
  have hread : (t.memWrite a v).ram.read 0x00F0 = t.ram.read 0x00F0 :=
    State.memWrite_read_ne t v fun he => ha (BitVec.eq_of_toNat_eq he.symm)
  unfold FaultByTest
  rw [hfault, hread]
  exact h

end FaultByTest

/-- A store where no fault was raised before. -/
theorem faultByTest_memWrite {s t : State} (h : t.fault = s.fault) (a : Word) (v : Byte) :
    FaultByTest s (t.memWrite a v) := by
  by_cases htest : a = 0x00F0 ∧ v ≠ 0x0A
  · obtain ⟨rfl, hv⟩ := htest
    refine .inr ⟨by rw [State.memWrite_fault, if_pos ⟨rfl, hv⟩], ?_⟩
    rw [State.memWrite_ram]
    exact fun hread => hv ((Memory.read_write_same _ _ v).symm.trans hread)
  · exact .inl (by rw [State.memWrite_fault, if_neg htest, h])

/-- A second store. One to TEST, after another to TEST, could hide the value that raised the fault. -/
theorem FaultByTest.memWrite {s t : State} (h : FaultByTest s t) {a : Word} (ha : a = 0x00F0 → t.fault = s.fault)
    (v : Byte) : FaultByTest s (t.memWrite a v) := by
  by_cases htest : a = 0x00F0
  · exact faultByTest_memWrite (ha htest) a v
  · exact h.memWrite_of_ne htest v

/-- When the second byte of a direct-page word is TEST, a store of the first raises no fault (R10). -/
theorem State.memWrite_fault_dpAddr (s u : State) {o : Byte} (h : s.dpAddr (o + 1) = 0x00F0) (v : Byte) :
    (u.memWrite (s.dpAddr o) v).fault = u.fault := by
  rw [State.memWrite_fault, if_neg]
  exact fun hc => s.dpAddr_next_ne o (congrArg BitVec.toNat (hc.1.trans h.symm))

/-- An instruction other than SLEEP and STOP sets the fault by a TEST write only: outside the stack it stores nothing, one
byte, or two bytes at different addresses. -/
theorem exec_fault (i : Instr) (s : State) :
    ∃ t, exec i s = .next t ∧ (FaultByTest s t ∨ (i = .sleep ∧ t.fault = some .sleeping) ∨
      (i = .stop ∧ t.fault = some .stopped)) := by
  cases i
  case sleep => exact ⟨_, rfl, .inr (.inl ⟨rfl, rfl⟩)⟩
  case stop => exact ⟨_, rfl, .inr (.inr ⟨rfl, rfl⟩)⟩
  all_goals refine ⟨_, rfl, .inl ?_⟩
  -- One store, and the registers after it.
  case movDpA | movAbsA | movIxA | movIndXA | movAbsX | movDpY | movAbsY | movDpXA | movAbsXA | movAbsYA | movIndYA |
      movDpX | movDpYX | movDpXY | movDpImm | movDpDp | set1B0 | clr1B0 | set1B1 | clr1B1 | set1B2 | clr1B2 | set1B3 |
      clr1B3 | set1B4 | clr1B4 | set1B5 | clr1B5 | set1B6 | mov1MbC | clr1B6 | set1B7 | not1Mb | clr1B7 | tset1Abs |
      tclr1Abs =>
    exact (faultByTest_memWrite (by simp) _ _).spend _
  case orDpDp | orIxIy | andDpDp | andIxIy | eorDpDp | eorIxIy | adcDpDp | adcIxIy | sbcDpDp | sbcIxIy | orDpImm |
      andDpImm | eorDpImm | adcDpImm | sbcDpImm | aslDp | aslAbs | aslDpX | rolDp | rolAbs | rolDpX | lsrDp | lsrAbs |
      lsrDpX | rorDp | rorAbs | rorDpX | decDp | decAbs | decDpX | incDp | incAbs | incDpX =>
    exact ((faultByTest_memWrite (by simp) _ _).setPsw _).spend _
  case movIxIncA => exact ((faultByTest_memWrite rfl _ _).setX _).spend _
  case dbnzDp => exact (faultByTest_memWrite (by simp) _ _).passOperand.branchIf _ _ _
  -- Two stores, of the bytes of a direct-page word.
  case movwDpYA d =>
    refine ((faultByTest_memWrite (by simp) _ _).memWrite (fun htest => ?_) _).spend _
    rw [State.memWrite_fault_dpAddr _ _ (by simpa using htest)]
    simp
  case decwDp d | incwDp d =>
    refine ((((faultByTest_memWrite (by simp) _ _).touch _).memWrite (fun htest => ?_) _).setPsw _).spend _
    rw [State.touch_fault, State.memWrite_fault_dpAddr _ _ (by simpa using htest)]
    simp
  -- No store, or the stack only.
  all_goals exact .inl (by simp)

/-- `cpu_run` changes by SLEEP and STOP only (R39). -/
theorem exec_cpu_run {i : Instr} {s t : State} (h : exec i s = .next t) :
    t.cpu.run = s.cpu.run ∨ (i = .sleep ∧ t.cpu.run = .sleeping) ∨ (i = .stop ∧ t.cpu.run = .stopped) := by
  rcases exec_cases h with hacts | ⟨rfl, rfl⟩ | ⟨rfl, rfl⟩
  · exact .inl (hacts.induct (p := fun u => u.cpu.run = s.cpu.run) rfl fun u v hact hu => hact.cpu_run.trans hu)
  · exact .inr (.inl ⟨rfl, rfl⟩)
  · exact .inr (.inr ⟨rfl, rfl⟩)

/-- TEST keeps its one value (R42, R110). -/
theorem exec_io_test {i : Instr} {s t : State} (h : exec i s = .next t) (htest : s.io.test = 0x0A) :
    t.io.test = 0x0A := by
  rcases exec_cases h with hacts | ⟨rfl, rfl⟩ | ⟨rfl, rfl⟩
  · exact hacts.induct htest fun u v hact hu => hact.io_test hu
  · exact htest
  · exact htest

/-- Settles O41: the fault by the stores of the instruction, `cpu_run` and TEST by its acts. -/
theorem faultCauses : Obligations.FaultCauses := by
  unfold Obligations.FaultCauses
  intro i s t h
  refine ⟨?_, exec_cpu_run h, exec_io_test h⟩
  obtain ⟨u, hu, hcause⟩ := exec_fault i s
  obtain rfl := Host.Outcome.next.inj (hu.symm.trans h)
  rcases hcause with (hkept | htest) | hsleep | hstop
  · exact .inl hkept
  · exact .inr (.inr (.inr htest))
  · exact .inr (.inl hsleep)
  · exact .inr (.inr (.inl hstop))

end Sys2Proof.Machine

/-! Every part of a voice's work in a tick keeps the voice's ranges (R73). -/

namespace Sys2Proof.Machine

open Sys2Proof

/-- The next offset of a block's data: 1, 3, 5, 7 in turn (R508). -/
theorem brrOffset_next {n : Nat} (h : n = 1 ∨ n = 3 ∨ n = 5 ∨ n = 7) (hlast : n + 2 ≠ 9) :
    n + 2 = 1 ∨ n + 2 = 3 ∨ n + 2 = 5 ∨ n + 2 = 7 := by omega

/-- An even number stays even in 16 bits (R5). -/
theorem wrap16_even {v : Int} (h : v % 2 = 0) : (wrap16 v).getLsbD 0 = false := by
  rw [wrap16, ← BitVec.testBit_toNat, BitVec.toNat_ofInt, Nat.testBit_zero]
  exact decide_eq_false (by omega)

/-- The output sample is even (R543). -/
theorem voiceOut_even (s : Sample) (level : Nat) : (voiceOut s level).getLsbD 0 = false := by
  unfold voiceOut
  split
  · rfl
  · exact wrap16_even (clearBit0_mod _)

theorem ite_ne_off {c : Prop} [Decidable c] {m n : EnvMode} (hm : m ≠ .off) (hn : n ≠ .off) :
    (if c then m else n) ≠ .off := by
  split <;> assumption

namespace Voice.Inv

variable {x : Voice} (h : x.Inv)
include h

/-- An envelope rule moves the level inside its range; only a level of 0 may go with Off (R527, R530). -/
theorem withEnvelope {m : EnvMode} {l : Nat} (hl : l ≤ 0x7FF) (hoff : m = .off → l = 0) :
    Voice.Inv { x with mode := m, level := l } :=
  { h with level := hl, silent := hoff }

theorem withOut {o : Sample} (ho : o.getLsbD 0 = false) : Voice.Inv { x with out := o } := { h with even := ho }

theorem withInterpPos {n : Nat} (hn : n ≤ 0x7FFF) : Voice.Inv { x with interpPos := n } := { h with interp := hn }

theorem withBlock {a : Word} {n : Nat} (hn : n = 1 ∨ n = 3 ∨ n = 5 ∨ n = 7) :
    Voice.Inv { x with brrAddr := a, brrOffset := n } := { h with offset := hn }

theorem silence : x.silence.Inv := h.withEnvelope (by decide) fun _ => rfl

theorem keyOff : x.keyOff.Inv := by
  unfold Voice.keyOff
  split
  · exact h
  · exact h.withEnvelope h.level nofun

theorem keyOn : x.keyOn.Inv := { h with delay := Nat.le_refl 5, silent := nofun }

theorem keyOnSequence (start : Word) : (x.keyOnSequence start).Inv := by
  have hdelay : x.konDelay - 1 ≤ 5 := (Nat.sub_le _ 1).trans h.delay
  have hinterp : (if (x.konDelay - 1) % 4 = 0 then 0 else 0x4000) ≤ 0x7FFF := by split <;> decide
  unfold Voice.keyOnSequence
  dsimp only
  split
  · have hstart : Voice.Inv { x with konDelay := x.konDelay - 1, brrAddr := start, brrOffset := 1, bufPos := 0 } :=
      { h with offset := .inl rfl, pos := .inl rfl, delay := hdelay }
    exact (hstart.withInterpPos hinterp).withEnvelope (Nat.zero_le _) fun _ => rfl
  · have hwait : Voice.Inv { x with konDelay := x.konDelay - 1 } := { h with delay := hdelay }
    exact (hwait.withInterpPos hinterp).withEnvelope (Nat.zero_le _) fun _ => rfl

/-! The envelope (R522 to R530). -/

theorem attackStep (counter : Nat) (adsr1 : Byte) : (x.attackStep counter adsr1).Inv := by
  unfold Voice.attackStep
  dsimp only
  split
  · exact h.withEnvelope (clampLevel_le _) fun hoff => absurd hoff (ite_ne_off nofun nofun)
  · exact h

theorem decayStep (counter : Nat) (adsr1 adsr2 : Byte) : (x.decayStep counter adsr1 adsr2).Inv := by
  unfold Voice.decayStep
  dsimp only
  split
  · exact h.withEnvelope (clampLevel_le _) fun hoff => absurd hoff (ite_ne_off nofun nofun)
  · exact h

theorem sustainStep (counter : Nat) (adsr2 : Byte) (hon : x.mode ≠ .off) : (x.sustainStep counter adsr2).Inv := by
  unfold Voice.sustainStep
  split
  · exact h.withEnvelope (clampLevel_le _) fun hoff => absurd hoff hon
  · exact h

theorem gainStep (counter : Nat) (gain : Byte) (hon : x.mode ≠ .off) : (x.gainStep counter gain).Inv := by
  unfold Voice.gainStep
  split
  · split
    · exact h.withEnvelope (clampLevel_le _) fun hoff => absurd hoff hon
    · exact h
  · exact h.withEnvelope (by omega) fun hoff => absurd hoff hon

theorem releaseStep : x.releaseStep.Inv := by
  unfold Voice.releaseStep
  dsimp only
  split
  · exact h.withEnvelope (Nat.zero_le _) fun _ => rfl
  · exact h.withEnvelope (clampLevel_le _) fun hoff => by
      rw [h.silent hoff]
      rfl

theorem envStep (counter : Nat) (adsr1 adsr2 gain : Byte) : (x.envStep counter adsr1 adsr2 gain).Inv := by
  unfold Voice.envStep
  split
  case isFalse => exact h
  split
  case h_1 => exact h
  case h_2 => exact h.releaseStep
  -- The phases with an ADSR rule: without ADSR the level follows GAIN.
  case h_3 hmode =>
    split
    · exact h.attackStep ..
    · exact h.gainStep _ _ (by simp [hmode])
  case h_4 hmode =>
    split
    · exact h.decayStep ..
    · exact h.gainStep _ _ (by simp [hmode])
  case h_5 hmode =>
    split
    · exact h.sustainStep _ _ (by simp [hmode])
    · exact h.gainStep _ _ (by simp [hmode])

/-! BRR decoding (R505 to R508). -/

theorem decodeSample (header : Byte) (j nibble : Nat) : (x.decodeSample header j nibble).Inv := { h with }

theorem advancePos : Voice.Inv { x with bufPos := (x.bufPos + 4) % 12 } :=
  { h with pos := by have := h.pos; dsimp only; omega }

theorem decodeGroup (ram : Memory) : (x.decodeGroup ram).Inv :=
  ((((h.decodeSample ..).decodeSample ..).decodeSample ..).decodeSample ..).advancePos

theorem endBlock (header : Byte) (loop : Word) : (x.endBlock header loop).Inv := by
  have hloop : Voice.Inv { x with brrOffset := 1, brrAddr := loop } := h.withBlock (.inl rfl)
  unfold Voice.endBlock
  dsimp only
  split
  · exact hloop.silence
  · exact hloop

end Voice.Inv

end Sys2Proof.Machine

/-! A tick keeps the ranges of the S-DSP (R73 to R78). -/

namespace Sys2Proof.Machine

open Sys2Proof

/-- The noise register never becomes 0 (R542): only a register of 1 is shifted out, and its bit 0 comes in again. -/
theorem noiseStep_ne_zero {n : BitVec 15} (h : n ≠ 0) : noiseStep n ≠ 0 := by
  intro hzero
  obtain ⟨hin, hshift⟩ := BitVec.or_eq_zero_iff.1 hzero
  have hn : n = 1 := by
    have hpos : n.toNat ≠ 0 := fun h0 => h (BitVec.eq_of_toNat_eq h0)
    have hsmall : n.toNat / 2 = 0 := by simpa [Nat.shiftRight_eq_div_pow] using congrArg BitVec.toNat hshift
    apply BitVec.eq_of_toNat_eq
    show n.toNat = 1
    omega
  subst hn
  exact absurd hin (by decide)

namespace Dsp.Inv

variable {d : Dsp} (h : d.Inv)
include h

/-! The ranges speak of neither the registers nor the polled latches. -/

theorem withRegs (regs : Vector Byte 128) (konLatch : Byte) : Dsp.Inv { d with regs := regs, konLatch := konLatch } :=
  { h with }

theorem setReg (r : BitVec 7) (v : Byte) : (d.setReg r v).Inv := { h with }

theorem setVoice (v : Fin 8) {x : Voice} (hx : x.Inv) : (d.setVoice v x).Inv :=
  { h with
    voice := fun w => by
      rw [Dsp.voice_setVoice]
      split
      · exact hx
      · exact h.voice w }

theorem pollLatches : d.pollLatches.Inv := { h with }

theorem tickGlobals : d.tickGlobals.Inv := by
  unfold Dsp.tickGlobals
  extract_lets flipped polled counted
  have hflipped : flipped.Inv := { h with }
  have hpolled : polled.Inv := by
    unfold polled
    split
    · exact hflipped.pollLatches
    · exact hflipped
  have hcounted : counted.Inv := { hpolled with rate := nextRate_lt hpolled.rate }
  split
  · exact { hcounted with noise := noiseStep_ne_zero hcounted.noise }
  · exact hcounted

/-! One voice (R502). -/

theorem keyOnVoice (ram : Memory) (v : Fin 8) : (d.keyOnVoice ram v).Inv := by
  unfold Dsp.keyOnVoice
  split
  · exact h
  · exact h.setVoice v ((h.voice v).keyOnSequence _)

theorem emitVoice (v : Fin 8) : (d.emitVoice v).Inv :=
  ((h.setReg _ _).setVoice v ((h.voice v).withOut (voiceOut_even _ _))).setReg _ _

theorem softResetVoice (v : Fin 8) : (d.softResetVoice v).Inv := by
  unfold Dsp.softResetVoice
  split
  · exact h.setVoice v (h.voice v).silence
  · exact h

theorem pollVoice (v : Fin 8) : (d.pollVoice v).Inv := by
  unfold Dsp.pollVoice
  split
  case isFalse => exact h
  extract_lets released
  have hreleased : released.Inv := by
    unfold released
    split
    · exact h.setVoice v (h.voice v).keyOff
    · exact h
  split
  · exact (hreleased.setVoice v (hreleased.voice v).keyOn).setReg _ _
  · exact hreleased

theorem envVoice (v : Fin 8) : (d.envVoice v).Inv := h.setVoice v ((h.voice v).envStep ..)

theorem advanceBlock (ram : Memory) (v : Fin 8) (header : Byte) : (d.advanceBlock ram v header).Inv := by
  have hx := h.voice v
  unfold Dsp.advanceBlock
  dsimp only
  split
  · split
    · have hend := h.setVoice v (hx.endBlock header (ramWord ram (d.directoryEntry v + 2)))
      split
      · exact hend.setReg _ _
      · exact hend
    · exact h.setVoice v (hx.withBlock (.inl rfl))
  · next hlast => exact h.setVoice v (hx.withBlock (brrOffset_next hx.offset hlast))

theorem pitchAndDecode (ram : Memory) (v : Fin 8) (p : Nat) : (d.pitchAndDecode ram v p).Inv := by
  have hpos := h.setVoice v ((h.voice v).withInterpPos (Nat.min_le_left 0x7FFF ((d.voice v).interpPos % 0x4000 + p)))
  unfold Dsp.pitchAndDecode
  dsimp only
  split
  · exact (hpos.setVoice v ((hpos.voice v).decodeGroup ram)).advanceBlock ram v _
  · exact hpos

theorem voiceTick (ram : Memory) (mute : Byte) (m : Mix) (v : Fin 8) : (voiceTick ram mute (d, m) v).1.Inv :=
  (((((h.keyOnVoice ram v).emitVoice v).softResetVoice v).pollVoice v).envVoice v).pitchAndDecode ram v _

theorem runVoices (ram : Memory) (mute : Byte) : (runVoices ram mute d).1.Inv :=
  List.foldlRecOn (motive := fun t : Dsp × Mix => t.1.Inv) _ _ h fun t ht v _ => ht.voiceTick ram mute t.2 v

/-! The echo (R560, R565). -/

theorem advanceEcho : d.advanceEcho.Inv := by
  unfold Dsp.advanceEcho
  extract_lets length
  have hlength : length % 2048 = 0 ∧ length ≤ 30720 := by
    unfold length
    split
    · omega
    · exact ⟨h.unit, h.length⟩
  obtain ⟨hunit, hle⟩ := hlength
  have hframe := h.frame
  exact {
    h with
    frame := by
      dsimp only
      split <;> omega
    unit := hunit
    length := hle
    inside := by
      dsimp only
      split <;> omega }

theorem readEcho (ram : Memory) : (d.readEcho ram).Inv := { h.advanceEcho with }

end Dsp.Inv

end Sys2Proof.Machine

/-! Every step keeps the invariant of the machine. -/

namespace Sys2Proof.Machine

open Sys2Proof

namespace State.Inv

variable {s : State} (h : s.Inv)
include h

theorem of_act {t : State} (hact : Act s t) : t.Inv := by
  refine { ram := ?_, run := fun hrun => ?_, test := hact.io_test h.test, dsp := ?_ }
  · cases hact with
    | regs | spend => exact h.ram
    | touch | dummyRead => simpa using h.ram
    | memWrite a v => exact s.wf_memWrite a v h.ram
  · exact hact.fault_ne_none (h.run (hact.cpu_run ▸ hrun))
  · rw [(instrFrame_of_act hact).dsp]
    exact h.dsp.withRegs _ _

theorem of_exec {i : Instr} {t : State} (hexec : exec i s = .next t) : t.Inv := by
  rcases exec_cases hexec with hacts | ⟨-, rfl⟩ | ⟨-, rfl⟩
  · exact hacts.induct h fun u v hact hu => hu.of_act hact
  · exact { h with run := nofun }
  · exact { h with run := nofun }

theorem fetched : s.fetched.Inv := by
  have hacts : Acts s s.passOperand := Acts.passOperand .refl
  have hpass : s.passOperand.Inv := hacts.induct h fun u v hact hu => hu.of_act hact
  exact { hpass with }

theorem dspTick : s.dspTick.Inv :=
  { h with
    ram := State.wf_dspTick s h.ram
    dsp := (h.dsp.tickGlobals.runVoices s.ram s.muteMask).readEcho s.ram }

theorem timerCycle : s.timerCycle.Inv :=
  ⟨by simpa using h.ram, by simpa using h.run, by simpa using h.test, by simpa using h.dsp⟩

theorem clockCycle : s.clockCycle.Inv := by
  have htimers : State.Inv (State.timerCycle { s with clk := s.clk + 1 }) :=
    State.Inv.timerCycle (s := { s with clk := s.clk + 1 }) { h with }
  unfold State.clockCycle
  dsimp only
  split
  · exact htimers.dspTick
  · exact htimers

theorem runClock (n : Nat) : (s.runClock n).Inv := State.runClock_induct (fun _ hu => hu.clockCycle) n s h

end State.Inv

/-- A step that answers a next state is an instruction and the clock of its cycles (R601). -/
theorem step_cases {s t : State} (h : step s = .next t) :
    ∃ i u, exec i s.fetched = .next u ∧ t = u.runClock u.cycles := by
  unfold step at h
  split at h
  case h_1 | h_2 | h_3 => cases h
  split at h
  · cases h
  · next r hdec =>
    split at h
    · next u hexec => exact ⟨r.1, u, hexec, (Host.Outcome.next.inj h).symm⟩
    · cases h
    · cases h

/-- Settles O43: the opcode fetch, the acts of the instruction and the cycles of the clock each keep the invariant. -/
theorem stepKeepsInvariant : Obligations.StepKeepsInvariant := by
  unfold Obligations.StepKeepsInvariant
  intro s t h hstep
  obtain ⟨i, u, hexec, rfl⟩ := step_cases hstep
  exact (h.fetched.of_exec hexec).runClock u.cycles

end Sys2Proof.Machine

/-! The addresses of the I/O registers, and an access at one of them (R105, R109 to R121). -/

namespace Sys2Proof.Machine

open Sys2Proof

section
variable (s : State)

theorem State.peek_ioReg {a : Word} {r : IoReg} (h : ioReg a = some r) : s.peek a = s.ioRead a r := by
  rw [State.peek, h]

theorem State.touch_tOut {a : Word} {k : Fin 3} (h : ioReg a = some (.tOut k)) : s.touch a = s.setTOut k 0 := by
  rw [State.touch, h]

/-- Only a timer counter's read has a side effect (R121). -/
theorem State.touch_of_ne_tOut {a : Word} (h : ∀ k, ioReg a ≠ some (.tOut k)) : s.touch a = s := by
  unfold State.touch
  split
  · next k hk => exact absurd hk (h k)
  · rfl

theorem State.memWrite_ioReg {a : Word} {r : IoReg} (v : Byte) (h : ioReg a = some r) :
    s.memWrite a v = (s.setRam a v).ioWrite v r := by
  rw [State.memWrite, h]

end

/-! The ports, timer targets and timer counters stand in rows. -/

theorem ioReg_cpuio : ∀ k : Fin 4, ioReg (0x00F4 + BitVec.ofNat 16 k) = some (.cpuio k) := by decide
theorem ioReg_tTarget : ∀ k : Fin 3, ioReg (0x00FA + BitVec.ofNat 16 k) = some (.tTarget k) := by decide
theorem ioReg_tOut : ∀ k : Fin 3, ioReg (0x00FD + BitVec.ofNat 16 k) = some (.tOut k) := by decide

/-- The timer counters are the registers at 0x00FD to 0x00FF (R121). -/
theorem eq_of_ioReg_tOut {a : Word} {k : Fin 3} (h : ioReg a = some (.tOut k)) : a = 0x00FD + BitVec.ofNat 16 k := by
  have hindex : ∀ k : Fin 3, ∀ i < 16, ioRegs[i]? = some (.tOut k) → i = 13 + k.val := by decide
  obtain ⟨hlt, -⟩ := List.getElem?_eq_some_iff.1 h
  have hi : (a - 0x00F0).toNat = 13 + k := hindex k _ hlt h
  bv_omega

end Sys2Proof.Machine

/-! Bus reads (R105, R106, R110 to R121). -/

namespace Sys2Proof.Machine

open Sys2Proof

/-- Outside the I/O registers a read sees the IPL ROM where it is mapped, and RAM elsewhere (R105, R106). -/
theorem State.peek_plain (s : State) {a : Word} (h : ioReg a = none) : s.peek a =
    if 0xFFC0 ≤ a.toNat ∧ s.romMapped = true then Config.iplRom.getD (a.toNat - 0xFFC0) 0x00
    else s.ram.read a.toNat := by
  rw [State.peek, h]

/-- A byte of the mapped IPL ROM (R106). -/
theorem State.peek_rom (s : State) {a : Word} (ha : 0xFFC0 ≤ a.toNat) (hmapped : s.romMapped = true) :
    ∃ h : a.toNat - 0xFFC0 < Config.iplRom.length, s.peek a = Config.iplRom[a.toNat - 0xFFC0] := by
  have hlen : a.toNat - 0xFFC0 < Config.iplRom.length := by
    have := a.isLt
    show _ < 64
    omega
  refine ⟨hlen, ?_⟩
  rw [State.peek_plain s (ioReg_outside (by omega)), if_pos ⟨ha, hmapped⟩, List.getD_eq_getElem _ _ hlen]

/-- A DSPDATA read ignores bit 7 of DSPADDR (R113). -/
theorem State.peek_dspData (s : State) :
    s.peek 0x00F3 = s.dsp.regs[s.io.dspAddr.toNat % 128]'(Nat.mod_lt _ (by decide)) := by
  have hr : s.peek 0x00F3 = s.ioRead 0x00F3 .dspData := State.peek_ioReg s rfl
  rw [hr]
  simp only [State.ioRead, Dsp.reg, BitVec.toNat_setWidth, Nat.reducePow]

/-- Settles O8: the registers one by one, RAM or the IPL ROM at every other address. -/
theorem busRead : Obligations.BusRead := by
  unfold Obligations.BusRead
  intro s
  refine ⟨fun a ha => ⟨fun hrom => s.peek_rom hrom, fun hram => ?_⟩, ⟨rfl, rfl, rfl⟩, s.peek_dspData,
    fun k => s.peek_ioReg (ioReg_cpuio k), ⟨rfl, rfl⟩, fun k => s.peek_ioReg (ioReg_tTarget k), fun k => ⟨?_, ?_⟩,
    fun a ha => ?_⟩
  · rw [State.peek_plain s (ioReg_outside ha), if_neg]
    rintro ⟨hrom, hmapped⟩
    rcases hram with hlow | hclear
    · omega
    · exact absurd (hmapped.symm.trans hclear) (by decide)
  · rw [State.peek_ioReg s (ioReg_tOut k)]
    exact BitVec.toNat_setWidth_of_le (by decide)
  · exact s.touch_tOut (ioReg_tOut k)
  · exact s.touch_of_ne_tOut fun k hk => ha k (eq_of_ioReg_tOut hk)

end Sys2Proof.Machine

/-! Bus writes (R105, R107, R108, R110 to R120). -/

namespace Sys2Proof.Machine

open Sys2Proof

/-- Settles O9: RAM takes the byte at every address, and outside the I/O page nothing else happens. -/
theorem busWriteMemory : Obligations.BusWriteMemory := by
  unfold Obligations.BusWriteMemory
  intro s a v
  refine ⟨?_, fun b hb => s.memWrite_read_ne v hb, s.memWrite_cpu a v, fun ha => ?_⟩
  · rw [State.memWrite_ram, Memory.read_write_same]
  · rw [State.memWrite_plain s v (ioReg_outside ha)]
    rfl

/-- A CPU write of a DSP register (R72): the byte stored, but 0x00 for ENDX, and KON copied to the latch. -/
theorem Dsp.cpuWrite_fields (d : Dsp) (r : BitVec 7) (v : Byte) : d.cpuWrite r v =
    { d with
      regs := d.regs.set r.toNat (if r = 0x7C#7 then 0x00 else v) r.isLt
      konLatch := if r = 0x4C#7 then v else d.konLatch } := by
  unfold Dsp.cpuWrite
  split
  · next hkon =>
    subst hkon
    rfl
  · split
    · next hendx =>
      subst hendx
      rfl
    · rfl

/-- Below 0x80 DSPADDR is the register's number (R114). -/
theorem State.ioWrite_dspData (s : State) (v : Byte) (h : s.io.dspAddr.toNat < 128) : s.ioWrite v .dspData =
    { s with
      dsp := { s.dsp with
        regs := s.dsp.regs.set s.io.dspAddr.toNat (if s.io.dspAddr = 0x7C then 0x00 else v)
        konLatch := if s.io.dspAddr = 0x4C then v else s.dsp.konLatch } } := by
  have hnat : (s.io.dspAddr.setWidth 7).toNat = s.io.dspAddr.toNat := by
    rw [BitVec.toNat_setWidth, Nat.mod_eq_of_lt h]
  have hendx : s.io.dspAddr.setWidth 7 = 0x7C#7 ↔ s.io.dspAddr = 0x7C := by
    rw [← BitVec.toNat_inj, ← BitVec.toNat_inj, hnat]
    rfl
  have hkon : s.io.dspAddr.setWidth 7 = 0x4C#7 ↔ s.io.dspAddr = 0x4C := by
    rw [← BitVec.toNat_inj, ← BitVec.toNat_inj, hnat]
    rfl
  simp only [State.ioWrite, if_pos h, Dsp.cpuWrite_fields, hnat, hendx, hkon]

/-- Settles O12: RAM takes the byte, and the register at the address does its own write. -/
theorem ioWrites : Obligations.IoWrites := by
  unfold Obligations.IoWrites
  intro s v
  exact ⟨rfl, rfl, fun h => if_neg (Nat.not_lt.2 h), State.ioWrite_dspData (s.setRam 0x00F3 v) v,
    fun k => s.memWrite_ioReg v (ioReg_cpuio k), rfl, rfl, fun k => s.memWrite_ioReg v (ioReg_tTarget k),
    fun k => s.memWrite_ioReg v (ioReg_tOut k)⟩

end Sys2Proof.Machine

/-! The CONTROL write (R111). -/

namespace Sys2Proof.Machine

open Sys2Proof

/-- The ports named by the clear bits become 0x00 (R111): ports 0 and 1 by bit 4, ports 2 and 3 by bit 5. -/
theorem getElem_clearPorts (v : Byte) (p : Vector Byte 4) (k : Fin 4) : (clearPorts v p)[k] =
    if (k.val < 2 ∧ v.getLsbD 4 = true) ∨ (2 ≤ k.val ∧ v.getLsbD 5 = true) then 0x00 else p[k] := by
  unfold clearPorts
  fin_cases k <;> cases v.getLsbD 4 <;> cases v.getLsbD 5 <;> simp

/-- Nothing but timer dividers and counters differs. -/
def TimersOnly (s t : State) : Prop := t = { s with io := { s.io with tDiv := t.io.tDiv, tOut := t.io.tOut } }

theorem TimersOnly.trans {s t u : State} (h : TimersOnly s t) (h' : TimersOnly t u) : TimersOnly s u :=
  Eq.trans h' (by rw [h])

theorem timersOnly_startTimer (s : State) (v : Byte) (k : Fin 3) : TimersOnly s (s.startTimer v k) := by
  unfold State.startTimer
  split <;> exact rfl

/-- A timer's divider and counter. -/
def State.timer (s : State) (k : Fin 3) : Byte × BitVec 4 := (s.io.tDiv[k], s.io.tOut[k])

/-- A timer is cleared when its enable bit goes from 0 to 1; the others are kept (R111). -/
theorem State.timer_startTimer (s : State) (v : Byte) (j k : Fin 3) : (s.startTimer v j).timer k =
    if j = k ∧ v.getLsbD k = true ∧ s.io.control.getLsbD k = false then (0, 0) else s.timer k := by
  unfold State.startTimer
  by_cases hjk : j = k
  · subst hjk
    cases hv : v.getLsbD j <;> cases hc : s.io.control.getLsbD j <;> simp [State.timer]
  · have hne : (j : Nat) ≠ k := Fin.val_ne_of_ne hjk
    simp only [hjk, false_and, if_false]
    split
    · simp [State.timer, hne]
    · rfl

/-- The three timers restart independently (R111). -/
theorem State.timer_writeControl (s : State) (v : Byte) (k : Fin 3) : (s.writeControl v).timer k =
    if v.getLsbD k = true ∧ s.io.control.getLsbD k = false then (0, 0) else s.timer k := by
  have hports : State.timer { s with io := { s.io with cpuioIn := clearPorts v s.io.cpuioIn } } k = s.timer k := rfl
  show (State.startTimer _ v 2).timer k = _
  simp only [State.timer_startTimer, State.startTimer_io_control, hports]
  fin_cases k <;> simp

theorem State.writeControl_io_cpuioIn (s : State) (v : Byte) :
    (s.writeControl v).io.cpuioIn = clearPorts v s.io.cpuioIn := by simp [State.writeControl]

/-- The frame of a CONTROL write (R111). -/
theorem State.writeControl_eq (s : State) (v : Byte) : s.writeControl v =
    { s with io := { s.io with
      control := v
      cpuioIn := clearPorts v s.io.cpuioIn
      tDiv := (s.writeControl v).io.tDiv
      tOut := (s.writeControl v).io.tOut } } := by
  have htimers := ((timersOnly_startTimer { s with io := { s.io with cpuioIn := clearPorts v s.io.cpuioIn } } v 0).trans
    (timersOnly_startTimer _ v 1)).trans (timersOnly_startTimer _ v 2)
  exact congrArg (fun t : State => { t with io := { t.io with control := v } }) htimers

/-- Settles O11: RAM takes the byte, then CONTROL's own write; the ports, the timers and the frame one by one. -/
theorem controlWrite : Obligations.ControlWrite := by
  unfold Obligations.ControlWrite
  intro s v t
  have hram : t.ram = (s.setRam 0x00F1 v).ram := s.memWrite_ram 0x00F1 v
  have hports : t.io.cpuioIn = clearPorts v s.io.cpuioIn := State.writeControl_io_cpuioIn _ v
  refine ⟨rfl, rfl, rfl, ?_, fun b hb => s.memWrite_read_ne v hb, fun k => ?_, fun k => ?_, ?_⟩
  · rw [hram]
    exact Memory.read_write_same ..
  · rw [hports]
    exact getElem_clearPorts v s.io.cpuioIn k
  · have hk := State.timer_writeControl (s.setRam 0x00F1 v) v k
    exact ⟨(congrArg Prod.fst hk).trans (apply_ite ..), (congrArg Prod.snd hk).trans (apply_ite ..)⟩
  · rw [hports, hram]
    exact State.writeControl_eq ..

end Sys2Proof.Machine

/-! What the voices' half of a tick leaves as it is (R500, R502). -/

namespace Sys2Proof.Machine

open Sys2Proof

/-- The registers the voices write: ENDX, and ENVX and OUTX of each voice (R508, R510, R545). -/
def IsVoiceOutput (r : BitVec 7) : Prop := r = 0x7C ∨ ∃ v, r = voiceReg v 8 ∨ r = voiceReg v 9

theorem not_isVoiceOutput_flg : ¬ IsVoiceOutput 0x6C := by unfold IsVoiceOutput; decide
theorem not_isVoiceOutput_esa : ¬ IsVoiceOutput 0x6D := by unfold IsVoiceOutput; decide

/-- The frame of the voices' work: their own state and the registers they write. -/
structure VoiceFrame (d e : Dsp) : Prop where
  globals : e = { d with regs := e.regs, voices := e.voices }
  reg {r : BitVec 7} (h : ¬ IsVoiceOutput r) : e.reg r = d.reg r

theorem VoiceFrame.refl (d : Dsp) : VoiceFrame d d := ⟨rfl, fun _ => rfl⟩

namespace VoiceFrame

variable {d e : Dsp} (h : VoiceFrame d e)
include h

theorem setVoice (v : Fin 8) (x : Voice) : VoiceFrame d (e.setVoice v x) where
  globals := by rw [h.globals]; rfl
  reg := h.reg

theorem setReg {r : BitVec 7} (hr : IsVoiceOutput r) (b : Byte) : VoiceFrame d (e.setReg r b) where
  globals := by rw [h.globals]; rfl
  reg hq := by
    rw [Dsp.reg_setReg, if_neg (by rintro rfl; exact hq hr)]
    exact h.reg hq

theorem setEndx (b : Byte) : VoiceFrame d (e.setReg 0x7C b) := h.setReg (.inl rfl) b

theorem keyOnVoice (ram : Memory) (v : Fin 8) : VoiceFrame d (e.keyOnVoice ram v) := by
  unfold Dsp.keyOnVoice
  split
  · exact h
  · exact h.setVoice v _

theorem emitVoice (v : Fin 8) : VoiceFrame d (e.emitVoice v) :=
  ((h.setReg (.inr ⟨v, .inl rfl⟩) _).setVoice v _).setReg (.inr ⟨v, .inr rfl⟩) _

theorem softResetVoice (v : Fin 8) : VoiceFrame d (e.softResetVoice v) := by
  unfold Dsp.softResetVoice
  split
  · exact h.setVoice v _
  · exact h

theorem pollVoice (v : Fin 8) : VoiceFrame d (e.pollVoice v) := by
  unfold Dsp.pollVoice
  split
  case isFalse => exact h
  extract_lets released
  have hreleased : VoiceFrame d released := by
    unfold released
    split
    · exact h.setVoice v _
    · exact h
  split
  · exact (hreleased.setVoice v _).setEndx _
  · exact hreleased

theorem envVoice (v : Fin 8) : VoiceFrame d (e.envVoice v) := h.setVoice v _

theorem advanceBlock (ram : Memory) (v : Fin 8) (header : Byte) : VoiceFrame d (e.advanceBlock ram v header) := by
  unfold Dsp.advanceBlock
  dsimp only
  split
  · split
    · split
      · exact (h.setVoice v _).setEndx _
      · exact h.setVoice v _
    · exact h.setVoice v _
  · exact h.setVoice v _

theorem pitchAndDecode (ram : Memory) (v : Fin 8) (p : Nat) : VoiceFrame d (e.pitchAndDecode ram v p) := by
  unfold Dsp.pitchAndDecode
  dsimp only
  split
  · exact ((h.setVoice v _).setVoice v _).advanceBlock ram v _
  · exact h.setVoice v _

theorem voiceTick (ram : Memory) (mute : Byte) (m : Mix) (v : Fin 8) :
    VoiceFrame d (Machine.voiceTick ram mute (e, m) v).1 :=
  (((((h.keyOnVoice ram v).emitVoice v).softResetVoice v).pollVoice v).envVoice v).pitchAndDecode ram v _

end VoiceFrame

theorem voiceFrame_runVoices (ram : Memory) (mute : Byte) (d : Dsp) : VoiceFrame d (runVoices ram mute d).1 :=
  List.foldlRecOn (motive := fun t : Dsp × Mix => VoiceFrame d t.1) _ _ (.refl d)
    fun t ht v _ => ht.voiceTick ram mute t.2 v

/-- The start of a tick writes no register and leaves the echo position (R501). -/
theorem Dsp.tickGlobals_regs_echoOffset (d : Dsp) :
    d.tickGlobals.regs = d.regs ∧ d.tickGlobals.echoOffset = d.echoOffset := by
  unfold Dsp.tickGlobals
  extract_lets flipped polled counted
  have hpolled : polled.regs = d.regs ∧ polled.echoOffset = d.echoOffset := by
    unfold polled
    split <;> exact ⟨rfl, rfl⟩
  split <;> exact hpolled

end Sys2Proof.Machine

/-! What a tick changes (R560 to R574). -/

namespace Sys2Proof.Machine

open Sys2Proof

/-- The S-DSP and the temporaries after the voices' half of a tick (R500). -/
def State.afterVoices (s : State) : Dsp × Mix := runVoices s.ram s.muteMask s.dsp.tickGlobals

theorem State.afterVoices_reg (s : State) {r : BitVec 7} (h : ¬ IsVoiceOutput r) :
    s.afterVoices.1.reg r = s.dsp.reg r := by
  obtain ⟨hregs, -⟩ := s.dsp.tickGlobals_regs_echoOffset
  exact ((voiceFrame_runVoices ..).reg h).trans (by rw [Dsp.reg, Dsp.reg, getElem_congr_coll hregs])

theorem State.afterVoices_flg (s : State) : s.afterVoices.1.flg = s.dsp.flg := s.afterVoices_reg not_isVoiceOutput_flg

/-- The echo frame of a tick lies where the state before it says (R564). -/
theorem State.afterVoices_echoAddr (s : State) : s.afterVoices.1.echoAddr = s.dsp.echoAddr := by
  obtain ⟨-, hstart⟩ := s.dsp.tickGlobals_regs_echoOffset
  have hoffset : s.afterVoices.1.echoOffset = s.dsp.echoOffset :=
    (congrArg Dsp.echoOffset (voiceFrame_runVoices ..).globals).trans hstart
  have hesa : s.afterVoices.1.esa = s.dsp.esa := s.afterVoices_reg not_isVoiceOutput_esa
  rw [Dsp.echoAddr, hesa, hoffset, Dsp.echoAddr]

/-- The frame emitted (R573, R574). -/
theorem State.dspTick_frame (s : State) :
    s.dspTick.frame = some ((s.afterVoices.1.readEcho s.ram).outputFrame s.afterVoices.2) := rfl

/-- RAM after a tick: the echo frame written unless FLG bit 5 is 1 (R571). -/
theorem State.dspTick_ram (s : State) : s.dspTick.ram =
    if s.dsp.flg.getLsbD 5 then s.ram
    else writeFrame s.ram s.dsp.echoAddr ((s.afterVoices.1.readEcho s.ram).echoFrame s.afterVoices.2) := by
  rw [← s.afterVoices_flg, ← s.afterVoices_echoAddr]
  rfl

/-- The addresses of the echo frame's bytes as numbers (R564; log entry 10). -/
theorem Dsp.toNat_echoAddr_add (d : Dsp) (k : Nat) :
    (d.echoAddr + BitVec.ofNat 16 k).toNat = (d.esa.toNat * 256 + d.echoOffset + k) % 65536 := by
  rw [Dsp.echoAddr, BitVec.toNat_add, BitVec.toNat_add, toNat_wordOf, BitVec.toNat_ofNat, BitVec.toNat_ofNat]
  simp

/-- Settles O54: a tick writes RAM by its echo frame alone, at the address the voices leave unchanged. -/
theorem tickRam : Obligations.TickRam := by
  unfold Obligations.TickRam
  intro s
  refine ⟨fun hecho => ?_, fun a ha => ?_, fun hmute => ?_, rfl, rfl, rfl, rfl⟩
  · rw [State.dspTick_ram, if_pos hecho]
  · have hne (k : Nat) (hk : k < 4) : a ≠ (s.dsp.echoAddr + BitVec.ofNat 16 k).toNat := by
      rw [Dsp.toNat_echoAddr_add]
      exact ha k hk
    rw [State.dspTick_ram]
    split
    · rfl
    · exact read_writeFrame (by simpa using hne 0 (by decide)) (hne 1 (by decide)) (hne 2 (by decide))
        (hne 3 (by decide))
  · have hflg : (s.afterVoices.1.readEcho s.ram).flg.getLsbD 6 = true := by
      rw [← hmute, ← s.afterVoices_flg]
      rfl
    rw [State.dspTick_frame, Dsp.outputFrame, if_pos hflg]

end Sys2Proof.Machine

/-! Decoding and encoding (R150 to R165): the decoder undoes the encoder, instruction by instruction, and the opcode map
holds, opcode by opcode, the instruction that encodes to the bytes read. -/

namespace Sys2Proof

theorem decode_of_length_three {op : Byte} {f : Format} (hf : formatOf op = some f) (hlen : f.length = 3) (b1 b2 : Byte)
    (rest : List Byte) : decode (op :: b1 :: b2 :: rest) = decoded (instrOf op b1 b2) rest := by
  simp only [decode, hf, hlen]

/-- An instruction with a 16-bit operand `a` decodes from its bytes (R153). -/
theorem decode_abs {op : Byte} {mk : Word → Instr} (hf : formatOf op = some .abs)
    (hmap : ∀ b1 b2, instrOf op b1 b2 = some (mk (wordOf b2 b1))) (a : Word) (rest : List Byte) :
    decode (op :: loByte a :: hiByte a :: rest) = .ok (mk a, rest) := by
  rw [decode_of_length_three hf rfl, hmap, wordOf_hiByte_loByte, decoded]

/-- An instruction with a fitting `m.b` operand decodes from its bytes (R159). -/
theorem decode_mbit {op : Byte} {mk : Word → Nat → Instr} (hf : formatOf op = some .mbit)
    (hmap : ∀ b1 b2, instrOf op b1 b2 = some (mk (mbitAddress (wordOf b2 b1)) (mbitNumber (wordOf b2 b1))))
    {m : Word} {b : Nat} (hfits : Instr.mbitFits m b = true) (rest : List Byte) :
    decode (op :: loByte (mbitWord m b) :: hiByte (mbitWord m b) :: rest) = .ok (mk m b, rest) := by
  rw [decode_of_length_three hf rfl, hmap, wordOf_hiByte_loByte, mbitAddress_mbitWord hfits, mbitNumber_mbitWord hfits,
    decoded]

/-- Settles O3: byte operands come back as they are; a word is made again of its two bytes, and an `m.b` operand of the
fields of its word. -/
theorem decodeOfEncode : Obligations.DecodeOfEncode := by
  unfold Obligations.DecodeOfEncode
  intro i rest hwf
  cases i
  case or1CMb | or1CNotMb | and1CMb | and1CNotMb | eor1CMb | mov1CMb | mov1MbC | not1Mb =>
    exact decode_mbit rfl (fun _ _ => rfl) hwf rest
  case orAAbs | aslAbs | tset1Abs | orAAbsX | orAAbsY | cmpXAbs | jmpIndAbsX | andAAbs | rolAbs | andAAbsX | andAAbsY |
      callAbs | eorAAbs | lsrAbs | tclr1Abs | eorAAbsX | eorAAbsY | cmpYAbs | jmpAbs | cmpAAbs | rorAbs | cmpAAbsX |
      cmpAAbsY | adcAAbs | decAbs | adcAAbsX | adcAAbsY | sbcAAbs | incAbs | sbcAAbsX | sbcAAbsY | movAbsA | movAbsX |
      movAbsY | movAbsXA | movAbsYA | movAAbs | movXAbs | movYAbs | movAAbsX | movAAbsY =>
    exact decode_abs rfl (fun _ _ => rfl) _ rest
  all_goals rfl

/-- The instruction is well formed, and its bytes are the opcode and those of the two bytes after it that its format
has (R165). -/
def EncodesTo (i : Instr) (f : Format) (op b1 b2 : Byte) : Prop :=
  i.WellFormed ∧ encode i = [op, b1, b2].take f.length

theorem encodesTo_abs {mk : Word → Instr} {op : Byte} (hwf : ∀ a, (mk a).WellFormed)
    (henc : ∀ a, encode (mk a) = [op, loByte a, hiByte a]) (b1 b2 : Byte) :
    EncodesTo (mk (wordOf b2 b1)) .abs op b1 b2 :=
  ⟨hwf _, by rw [henc, loByte_wordOf, hiByte_wordOf]; rfl⟩

theorem encodesTo_mbit {mk : Word → Nat → Instr} {op : Byte} (hwf : ∀ m b, (mk m b).wellFormed = Instr.mbitFits m b)
    (henc : ∀ m b, encode (mk m b) = [op, loByte (mbitWord m b), hiByte (mbitWord m b)]) (b1 b2 : Byte) :
    EncodesTo (mk (mbitAddress (wordOf b2 b1)) (mbitNumber (wordOf b2 b1))) .mbit op b1 b2 :=
  ⟨(hwf _ _).trans (mbitFits_fields _), by rw [henc, mbitWord_fields, loByte_wordOf, hiByte_wordOf]; rfl⟩

/-- The opcodes of a format. -/
def opcodesOf (f : Format) : List Byte :=
  ((List.range 256).map (BitVec.ofNat 8)).filter fun op => formatOf op = some f

theorem mem_opcodesOf {op : Byte} {f : Format} : op ∈ opcodesOf f ↔ formatOf op = some f := by
  have hop : op ∈ (List.range 256).map (BitVec.ofNat 8) := List.mem_map.2 ⟨op.toNat, List.mem_range.2 op.isLt, by simp⟩
  simp [opcodesOf, hop]

/-- Every opcode is assigned (R163). -/
theorem exists_formatOf (op : Byte) : ∃ f, formatOf op = some f := by
  have hsome : (formatOf op).isSome = true := by revert op; decide
  exact Option.isSome_iff_exists.1 hsome

/-- Every opcode has a format and an entry in the map, which encodes to the bytes it is read from (R163, R164). The case
split is by the format, and within it by the opcode. -/
theorem instrOf_encodesTo (op b1 b2 : Byte) :
    ∃ f i, formatOf op = some f ∧ instrOf op b1 b2 = some i ∧ EncodesTo i f op b1 b2 := by
  obtain ⟨f, hf⟩ := exists_formatOf op
  have hop := mem_opcodesOf.2 hf
  clear hf
  cases f with
  | abs =>
    fin_cases hop
    all_goals exact ⟨_, _, rfl, rfl, encodesTo_abs (fun _ => rfl) (fun _ => rfl) b1 b2⟩
  | mbit =>
    fin_cases hop
    all_goals exact ⟨_, _, rfl, rfl, encodesTo_mbit (fun _ _ => rfl) (fun _ _ => rfl) b1 b2⟩
  | _ =>
    fin_cases hop
    all_goals exact ⟨_, _, rfl, rfl, rfl, rfl⟩

theorem Format.length_bounds (f : Format) : 1 ≤ f.length ∧ f.length ≤ 3 := by
  cases f <;> decide

/-- Settles O2: the bytes begin with those of the opcode's entry in the map, and these decode to it. -/
theorem everyOpcodeDecodes : Obligations.EveryOpcodeDecodes := by
  unfold Obligations.EveryOpcodeDecodes
  intro op b1 b2 rest
  obtain ⟨f, i, -, -, hwf, henc⟩ := instrOf_encodesTo op b1 b2
  obtain ⟨hmin, hmax⟩ := f.length_bounds
  refine ⟨i, f.length, hmin, hmax, ?_⟩
  have htake : (op :: b1 :: b2 :: rest).take f.length = encode i := by
    rw [henc]
    exact List.take_append_of_le_length (l₁ := [op, b1, b2]) hmax
  calc decode (op :: b1 :: b2 :: rest)
    _ = decode (encode i ++ (op :: b1 :: b2 :: rest).drop f.length) := by rw [← htake, List.take_append_drop]
    _ = .ok (i, (op :: b1 :: b2 :: rest).drop f.length) := decodeOfEncode i _ hwf

theorem decoded_eq_ok {j : Option Instr} {i : Instr} {r rest : List Byte} (h : decoded j r = .ok (i, rest)) :
    j = some i ∧ r = rest := by
  cases j with
  | none => cases h
  | some j =>
    cases h
    exact ⟨rfl, rfl⟩

/-- What decodes is an opcode's entry in the map, and the bytes are its bytes and the rest (R150, R165). -/
theorem decode_cases {bytes rest : List Byte} {i : Instr} (h : decode bytes = .ok (i, rest)) :
    ∃ op b1 b2 f, formatOf op = some f ∧ instrOf op b1 b2 = some i ∧ bytes = [op, b1, b2].take f.length ++ rest := by
  unfold decode at h
  split at h
  · cases h
  next op _ =>
    split at h
    · cases h
    next f hf =>
      split at h
      next hlen =>
        obtain ⟨hi, rfl⟩ := decoded_eq_ok h
        exact ⟨op, 0, 0, f, hf, hi, by rw [hlen]; rfl⟩
      next b1 _ hlen =>
        obtain ⟨hi, rfl⟩ := decoded_eq_ok h
        exact ⟨op, b1, 0, f, hf, hi, by rw [hlen]; rfl⟩
      next b1 b2 _ hlen =>
        obtain ⟨hi, rfl⟩ := decoded_eq_ok h
        exact ⟨op, b1, b2, f, hf, hi, by rw [hlen]; rfl⟩
      · cases h

/-- Settles O4: what decodes is its opcode's entry in the map, and that encodes to the bytes it was read from. -/
theorem encodeOfDecode : Obligations.EncodeOfDecode := by
  unfold Obligations.EncodeOfDecode
  intro bytes rest i h
  obtain ⟨op, b1, b2, f, hf, hi, rfl⟩ := decode_cases h
  obtain ⟨g, j, hg, hj, hwf, henc⟩ := instrOf_encodesTo op b1 b2
  obtain rfl := Option.some.inj (hf.symm.trans hg)
  obtain rfl := Option.some.inj (hi.symm.trans hj)
  exact ⟨hwf, by rw [henc]⟩

/-- Settles O1: the decoder reads each word. -/
theorem decodeWrittenWords : Obligations.DecodeWrittenWords := by
  unfold Obligations.DecodeWrittenWords
  decide

end Sys2Proof

/-! Where a step may be taken, it gives a next state (R163, R602). -/

namespace Sys2Proof.Machine

open Sys2Proof

/-- Settles O6: the bytes at PC decode, and every instruction answers a next state. -/
theorem stepOutcomes : Obligations.StepOutcomes := by
  unfold Obligations.StepOutcomes
  intro s
  refine ⟨fun hrunnable => ?_, fun r hfault => by simp only [step, hfault]⟩
  obtain ⟨i, k, -, -, hdec⟩ := everyOpcodeDecodes (s.peek s.cpu.pc) (s.peek (s.cpu.pc + 1)) (s.peek (s.cpu.pc + 2)) []
  obtain ⟨t, hexec, -⟩ := exec_answers i s.fetched
  obtain ⟨-, -, hstep⟩ := stepRunsDecoded s t i _ hrunnable hdec
  exact ⟨_, hstep hexec⟩

end Sys2Proof.Machine

/-! The frame of the MOV family: what reads and fetches leave as it is, what a store changes, which flags SetNZ8
writes. -/

namespace Sys2Proof.Machine

open Sys2Proof Sys2Proof.Claims

theorem quiet_refl (s : State) : Quiet s s := ⟨fun _ => rfl, rfl, rfl, rfl, rfl, rfl, rfl, rfl, rfl⟩

theorem quiet_trans {s t u : State} (h : Quiet s t) (h' : Quiet t u) : Quiet s u := by
  obtain ⟨hram, hio, hdsp, hfault, hclk, hlifecycle, hmuteMask, hframe, hrun⟩ := h
  obtain ⟨hram', hio', hdsp', hfault', hclk', hlifecycle', hmuteMask', hframe', hrun'⟩ := h'
  exact ⟨fun a => (hram' a).trans (hram a), hio'.trans (by rw [hio]), hdsp'.trans hdsp, hfault'.trans hfault,
    hclk'.trans hclk, hlifecycle'.trans hlifecycle, hmuteMask'.trans hmuteMask, hframe'.trans hframe, hrun'.trans hrun⟩

theorem quiet_dummyRead (s : State) (a : Word) : Quiet s (s.dummyRead a) := by
  have hio : (s.dummyRead a).io = { s.io with tOut := (s.dummyRead a).io.tOut } := by
    unfold State.dummyRead; split <;> (try split) <;> rfl
  refine ⟨?_, hio, ?_⟩ <;> simp

theorem quiet_passed (s : State) (m : Mode) : Quiet s (m.passed s) := by
  cases m with
  | ix | iy => exact quiet_refl s
  | dp | dpX | dpY | indX | indY => exact quiet_passOperand s
  | abs | absX | absY => exact quiet_trans (quiet_passOperand s) (quiet_passOperand _)

theorem quiet_touchDpWord (s : State) (o : Byte) : Quiet s (s.touchDpWord o) :=
  quiet_trans (quiet_touch s _) (quiet_touch _ _)

theorem quiet_pointed (s : State) (m : Mode) : Quiet s (m.pointed s) := by
  cases m with
  | indX | indY => exact quiet_touchDpWord s _
  | ix | iy | dp | dpX | dpY | abs | absX | absY => exact quiet_refl s

theorem quiet_located (s : State) (m : Mode) : Quiet s (m.located s) :=
  quiet_trans (quiet_passed s m) (quiet_pointed _ m)

theorem quiet_readState (s : State) (m : Mode) : Quiet s (m.readState s) :=
  quiet_trans (quiet_located s m) (quiet_touch _ _)

/-- Locating a store's destination and reading it first stores nothing (R124). -/
theorem quiet_destination (s : State) (m : Mode) (a : Word) : Quiet s ((m.located s).dummyRead a) :=
  quiet_trans (quiet_located s m) (quiet_dummyRead _ a)

theorem quiet_after (s : State) (o : Src) : Quiet s (o.after s) := by
  cases o with
  | imm => exact quiet_passOperand s
  | mem m => exact quiet_readState s m

/-- Fetching a memory operand's form advances PC and changes no other register (R151 to R154). -/
theorem Mode.located_cpu (m : Mode) (s : State) :
    (m.located s).cpu = { s.cpu with pc := s.cpu.pc + modeSize m } := by
  have hpassed : (m.passed s).cpu = { s.cpu with pc := s.cpu.pc + modeSize m } := by
    cases m with
    | ix | iy => simp [Mode.passed, modeSize]
    | dp | dpX | dpY | indX | indY => exact s.passOperand_cpu
    | abs | absX | absY => simp [Mode.passed, modeSize, State.passOperand_cpu, add_assoc]
  rw [Mode.located, Mode.pointed_cpu, hpassed]

theorem Mode.readState_cpu (m : Mode) (s : State) :
    (m.readState s).cpu = { s.cpu with pc := s.cpu.pc + modeSize m } := by
  rw [Mode.readState, State.touch_cpu, m.located_cpu]

theorem srcAfter_cpu (o : Src) (s : State) : (o.after s).cpu = { s.cpu with pc := s.cpu.pc + o.size } := by
  cases o with
  | imm => exact s.passOperand_cpu
  | mem m => exact m.readState_cpu s

/-- A bus write after reads and fetches stores one byte (R105). -/
theorem stored_memWrite {s u : State} (h : Quiet s u) (a : Word) (v : Byte) : Stored a v u s (u.memWrite a v) := by
  obtain ⟨hram, -, hdsp, hfault, hclk, hlifecycle, hmuteMask, hframe, hrun⟩ := h
  refine ⟨?_, fun b hb => ?_, fun ha => ?_, rfl, rfl, rfl, by simpa, by simpa, by simpa, by simpa, by simpa⟩
  · rw [State.memWrite_ram, Memory.read_write_same]
  · rw [State.memWrite_read_ne u v hb, hram]
  · rw [State.memWrite_plain u v (ioReg_outside ha)]
    exact ⟨rfl, hdsp, hfault⟩

/-- SetNZ8 writes N and Z and keeps the other flags (R12). -/
theorem flagsAre_nz {s t : State} {v : Byte} (h : t.cpu.psw = setNZ8 s.cpu.psw v) : FlagsAre (nz v) s t := by
  have hflag (f : Flag) : t.flag f = getFlag (setNZ8 s.cpu.psw v) f := by rw [State.flag, h]
  refine ⟨fun p hp => ?_, fun f hf => ?_⟩
  · simp only [nz, List.mem_cons, List.not_mem_nil, or_false] at hp
    rcases hp with rfl | rfl
    all_goals
      rw [hflag, getFlag_setNZ8]
      rfl
  · simp only [nz, List.map_cons, List.map_nil, List.mem_cons, List.not_mem_nil, or_false, not_or] at hf
    obtain ⟨hn, hz⟩ := hf
    rw [hflag, getFlag_setNZ8, if_neg hz, if_neg hn, State.flag]

theorem decode_of_encode {i : Instr} {bytes : List Byte} (hwf : i.WellFormed) (h : encode i = bytes) :
    decode bytes = .ok (i, []) := by
  rw [← decodeOfEncode i [] hwf, List.append_nil, h]

end Sys2Proof.Machine

/-! MOV to a register (R200 to R217, R234 to R238). -/

namespace Sys2Proof.Machine

open Sys2Proof Sys2Proof.Claims

/-- `put` writes a register other than PSW and leaves `cpu_run` as it is. -/
def PutsRegister (put : Cpu → Byte → Cpu) : Prop :=
  ∀ (c : Cpu) (v psw : Byte), { put c v with psw := psw } = put { c with psw := psw } v ∧ (put c v).psw = c.psw ∧
    (put c v).run = c.run

theorem putsRegister_putA : PutsRegister putA := fun _ _ _ => ⟨rfl, rfl, rfl⟩
theorem putsRegister_putX : PutsRegister putX := fun _ _ _ => ⟨rfl, rfl, rfl⟩
theorem putsRegister_putY : PutsRegister putY := fun _ _ _ => ⟨rfl, rfl, rfl⟩

/-- The state after the load of a register with `v`: the register, then N and Z, then the cycles. -/
def State.loaded (s : State) (put : Cpu → Byte → Cpu) (v : Byte) (n : Nat) : State :=
  (State.putNZ8 { s with cpu := put s.cpu v } v).spend n

section
variable {put : Cpu → Byte → Cpu} (hput : PutsRegister put)
include hput

theorem State.loaded_cpu (u : State) (v : Byte) (n : Nat) :
    (u.loaded put v n).cpu = put { u.cpu with psw := setNZ8 u.cpu.psw v } v := by
  obtain ⟨hcomm, hpsw, -⟩ := hput u.cpu v (setNZ8 u.cpu.psw v)
  rw [← hcomm, ← hpsw]
  rfl

theorem State.loaded_psw (u : State) (v : Byte) (n : Nat) : (u.loaded put v n).cpu.psw = setNZ8 u.cpu.psw v := by
  obtain ⟨-, hpsw, -⟩ := hput u.cpu v 0
  exact congrArg (setNZ8 · v) hpsw

theorem quiet_loaded {s u : State} (h : Quiet s u) (v : Byte) (n : Nat) : Quiet s (u.loaded put v n) := by
  obtain ⟨-, -, hrun⟩ := hput u.cpu v 0
  exact quiet_trans h ⟨fun _ => rfl, rfl, rfl, rfl, rfl, rfl, rfl, rfl, hrun⟩

theorem loadsTo_of_exec {r : Row} {s : State} (hwf : r.instr.WellFormed) (henc : encode r.instr = r.bytes)
    (hexec : exec r.instr s = .next ((r.src.after s).loaded put (r.src.value s) r.cycles)) : LoadsTo put r s := by
  refine ⟨decode_of_encode hwf henc, _, hexec, ?_, flagsAre_nz ?_, quiet_loaded hput (quiet_after s r.src) _ _, rfl, rfl⟩
  · rw [State.loaded_psw hput, State.loaded_cpu hput, srcAfter_cpu]
  · rw [State.loaded_psw hput, srcAfter_cpu]

end

/-- Settles O13: every form's meaning is the load of its register after its operand was read. -/
theorem loads : Obligations.Loads := by
  unfold Obligations.Loads
  intro d a s
  refine ⟨fun r hr => ?_, fun r hr => ?_, fun r hr => ?_⟩
  · simp only [loadARows, List.mem_cons, List.not_mem_nil, or_false] at hr
    rcases hr with rfl | rfl | rfl | rfl | rfl | rfl | rfl | rfl | rfl
    all_goals exact loadsTo_of_exec putsRegister_putA rfl rfl rfl
  · simp only [loadXRows, List.mem_cons, List.not_mem_nil, or_false] at hr
    rcases hr with rfl | rfl | rfl | rfl
    all_goals exact loadsTo_of_exec putsRegister_putX rfl rfl rfl
  · simp only [loadYRows, List.mem_cons, List.not_mem_nil, or_false] at hr
    rcases hr with rfl | rfl | rfl | rfl
    all_goals exact loadsTo_of_exec putsRegister_putY rfl rfl rfl

/-- Settles O16: each form but `MOV SP,X` is the load of its register in the state as it is. -/
theorem movRegisters : Obligations.MovRegisters := by
  unfold Obligations.MovRegisters
  intro s
  refine ⟨fun r hr => ?_, rfl, _, rfl, rfl, quiet_refl s, rfl, rfl⟩
  simp only [List.mem_cons, List.not_mem_nil, or_false] at hr
  rcases hr with rfl | rfl | rfl | rfl | rfl
  all_goals dsimp only
  all_goals exact ⟨rfl, _, rfl, rfl, flagsAre_nz rfl, quiet_refl s, rfl, rfl⟩

end Sys2Proof.Machine

/-! MOV to memory, and the autoincrement forms (R218 to R233, R240, R241). -/

namespace Sys2Proof.Machine

open Sys2Proof Sys2Proof.Claims

theorem storesFrom_of_exec {get : Cpu → Byte} {r : DestRow} {s : State} (hwf : r.instr.WellFormed)
    (henc : encode r.instr = r.bytes) (hexec : exec r.instr s = store r.dst (fun s => get s.cpu) r.cycles s) :
    StoresFrom get r s := by
  refine ⟨decode_of_encode hwf henc, _, hexec, ?_, stored_memWrite (quiet_destination s r.dst _) _ _, rfl⟩
  rw [State.spend_cpu, State.memWrite_cpu, State.dummyRead_cpu, r.dst.located_cpu]

/-- Settles O14: every form's meaning is the store of its register at its operand. -/
theorem stores : Obligations.Stores := by
  unfold Obligations.Stores
  intro d a s
  refine ⟨fun r hr => ?_, fun r hr => ?_, fun r hr => ?_⟩
  · simp only [storeARows, List.mem_cons, List.not_mem_nil, or_false] at hr
    rcases hr with rfl | rfl | rfl | rfl | rfl | rfl | rfl | rfl
    all_goals exact storesFrom_of_exec rfl rfl rfl
  · simp only [storeXRows, List.mem_cons, List.not_mem_nil, or_false] at hr
    rcases hr with rfl | rfl | rfl
    all_goals exact storesFrom_of_exec rfl rfl rfl
  · simp only [storeYRows, List.mem_cons, List.not_mem_nil, or_false] at hr
    rcases hr with rfl | rfl | rfl
    all_goals exact storesFrom_of_exec rfl rfl rfl

/-- R218: a load of A after the read at the old X and the increment. -/
theorem exec_movAIxInc (s : State) : exec .movAIxInc s =
    .next (((s.touch (s.dpAddr s.cpu.x)).setX (s.cpu.x + 1)).loaded putA (s.peek (s.dpAddr s.cpu.x)) 4) := rfl

/-- Fetching the offset leaves the direct page as it is (R10). -/
theorem Mode.addr_dp (d : Byte) (s : State) : (Mode.dp d).addr s = s.dpAddr d := s.dpAddr_passOperand d

/-- R240: the destination's address depends on PSW only, which the source's read leaves as it is. -/
theorem exec_movDpDp (ds dd : Byte) (s : State) : exec (.movDpDp ds dd) s =
    .next ((((Mode.dp ds).readState s).passOperand.memWrite (s.dpAddr dd) ((Mode.dp ds).value s)).spend 5) := by
  have haddr : (Mode.dp dd).addr ((Mode.dp ds).readState s) = s.dpAddr dd := by
    rw [Mode.addr_dp, State.dpAddr_readState]
  rw [← haddr]
  rfl

/-- R241. -/
theorem exec_movDpImm (i d : Byte) (s : State) : exec (.movDpImm i d) s =
    .next (((s.passOperand.passOperand.dummyRead (s.dpAddr d)).memWrite (s.dpAddr d) i).spend 5) := by
  have haddr : (Mode.dp d).addr s.passOperand = s.dpAddr d := by
    rw [Mode.addr_dp, State.dpAddr_passOperand]
  rw [← haddr]
  rfl

/-- Settles O15: the autoincrement forms touch the byte at the old X; the two forms of three bytes pass an operand byte
twice and store at the destination. -/
theorem movSpecialForms : Obligations.MovSpecialForms := by
  unfold Obligations.MovSpecialForms
  intro s x y
  have hinc : Quiet s ((s.touch (s.dpAddr s.cpu.x)).setX (s.cpu.x + 1)) := quiet_touch s _
  have hsource : Quiet s ((Mode.dp x).readState s).passOperand :=
    quiet_trans (quiet_readState s _) (quiet_passOperand _)
  have hdest : Quiet s (s.passOperand.passOperand.dummyRead (s.dpAddr y)) :=
    quiet_trans (quiet_passOperand s) (quiet_destination _ (.dp y) _)
  refine ⟨⟨rfl, _, exec_movAIxInc s, ?_, flagsAre_nz ?_, quiet_loaded putsRegister_putA hinc _ _, rfl, rfl⟩,
    ⟨rfl, _, rfl, ?_, stored_memWrite (quiet_refl s) _ _, rfl⟩,
    ⟨rfl, _, exec_movDpDp x y s, ?_, stored_memWrite hsource _ _, rfl⟩,
    rfl, _, exec_movDpImm x y s, ?_, stored_memWrite hdest _ _, rfl⟩
  · rw [State.loaded_psw putsRegister_putA, State.loaded_cpu putsRegister_putA]
    simp [State.setX, putA]
  · rw [State.loaded_psw putsRegister_putA]
    simp
  · simp [State.setX, Mode.addr]
  · simp [State.passOperand_cpu, Mode.readState_cpu, modeSize, add_assoc]
  · simp [State.passOperand_cpu, add_assoc]

end Sys2Proof.Machine

/-! Operations on two bytes with the result in A or in memory, whatever the operation (R242). -/

namespace Sys2Proof.Machine

open Sys2Proof Sys2Proof.Claims

/-- `op` gives the result `f`, from C and the operands, and writes the flags `flags` and no other. -/
def Computes (op : AluOp) (f : Bool → Byte → Byte → Byte) (flags : Bool → Byte → Byte → List (Flag × Bool)) : Prop :=
  ∀ (s : State) (x y : Byte), (op s.cpu.psw x y).1 = f (s.flag .c) x y ∧
    ∀ t : State, t.cpu.psw = (op s.cpu.psw x y).2 → FlagsAre (flags (s.flag .c) x y) s t

/-- The state after an operation on A and `v`: its result to A, its PSW, then the cycles. -/
def State.accumulated (u : State) (op : AluOp) (v : Byte) (n : Nat) : State :=
  ((u.setA (op u.cpu.psw u.cpu.a v).1).setPsw (op u.cpu.psw u.cpu.a v).2).spend n

theorem State.accumulated_cpu (u : State) (op : AluOp) (v : Byte) (n : Nat) : (u.accumulated op v n).cpu =
    { u.cpu with a := (op u.cpu.psw u.cpu.a v).1, psw := (op u.cpu.psw u.cpu.a v).2 } := rfl

theorem quiet_accumulated {s u : State} (h : Quiet s u) (op : AluOp) (v : Byte) (n : Nat) :
    Quiet s (u.accumulated op v n) :=
  quiet_trans h ⟨fun _ => rfl, rfl, rfl, rfl, rfl, rfl, rfl, rfl, rfl⟩

/-- The state after an operation on `x` and `y`: its result to memory at `a`, its PSW, then the cycles. -/
def State.combined (u : State) (op : AluOp) (a : Word) (x y : Byte) (n : Nat) : State :=
  ((u.memWrite a (op u.cpu.psw x y).1).setPsw (op u.cpu.psw x y).2).spend n

theorem State.combined_cpu (u : State) (op : AluOp) (a : Word) (x y : Byte) (n : Nat) :
    (u.combined op a x y n).cpu = { u.cpu with psw := (op u.cpu.psw x y).2 } := by
  simp [State.combined, State.setPsw]

theorem stored_combined {s u : State} (h : Quiet s u) (hpsw : u.cpu.psw = s.cpu.psw) (op : AluOp) (a : Word)
    (x y : Byte) (n : Nat) : Stored a (op s.cpu.psw x y).1 u s (u.combined op a x y n) := by
  rw [← hpsw]
  exact stored_memWrite h a _

/-- The state after the source operand and then the memory operand were read. -/
def pairAfter (r : PairRow) (s : State) : State := r.dst.readState (r.src.after s)

theorem pairAfter_cpu (r : PairRow) (s : State) :
    (pairAfter r s).cpu = { s.cpu with pc := s.cpu.pc + r.src.size + modeSize r.dst } := by
  rw [pairAfter, Mode.readState_cpu, srcAfter_cpu]

theorem quiet_pairAfter (s : State) (r : PairRow) : Quiet s (pairAfter r s) :=
  quiet_trans (quiet_after s r.src) (quiet_readState _ r.dst)

section
variable {op : AluOp} {f : Bool → Byte → Byte → Byte} {flags : Bool → Byte → Byte → List (Flag × Bool)}
  (hop : Computes op f flags)
include hop

theorem accumulates_of_exec {r : Row} {s : State} (hwf : r.instr.WellFormed) (henc : encode r.instr = r.bytes)
    (hexec : exec r.instr s = .next ((r.src.after s).accumulated op (r.src.value s) r.cycles)) :
    Accumulates f flags r s := by
  obtain ⟨hresult, hflags⟩ := hop s s.cpu.a (r.src.value s)
  refine ⟨decode_of_encode hwf henc, _, hexec, ?_, hflags _ ?_, quiet_accumulated (quiet_after s r.src) op _ _, rfl, rfl⟩
  · rw [State.accumulated_cpu, srcAfter_cpu, ← hresult]
  · rw [State.accumulated_cpu, srcAfter_cpu]

/-- The result is stored where the memory operand was read. -/
theorem combines_of_exec {r : PairRow} {s : State} (hwf : r.instr.WellFormed) (henc : encode r.instr = r.bytes)
    (hexec : exec r.instr s = .next ((pairAfter r s).combined op (r.dst.addr (r.src.after s))
      (r.dst.value (r.src.after s)) (r.src.value s) r.cycles)) : Combines f flags r s := by
  obtain ⟨hresult, hflags⟩ := hop s (r.dst.value (r.src.after s)) (r.src.value s)
  have hpsw : (pairAfter r s).cpu.psw = s.cpu.psw := by rw [pairAfter_cpu]
  refine ⟨decode_of_encode hwf henc, _, hexec, ?_, hflags _ ?_,
    hresult ▸ stored_combined (quiet_pairAfter s r) hpsw op _ _ _ _, rfl⟩
  · rw [State.combined_cpu, pairAfter_cpu]
  · rw [State.combined_cpu, hpsw]

end

/-- No read moves the address `(X)`. -/
theorem Mode.addr_ix_readState (m : Mode) (s : State) : Mode.ix.addr (m.readState s) = Mode.ix.addr s := by
  simp [Mode.addr, Mode.ea, Mode.passed]

/-- `(X),(Y)`: the write is at the address the byte at `(X)` was read from. -/
theorem aluIxIy_eq_combined (op : AluOp) (n : Nat) (s : State) : aluIxIy op n s =
    .next ((Mode.ix.readState (Mode.iy.readState s)).combined op (Mode.ix.addr (Mode.iy.readState s))
      (Mode.ix.value (Mode.iy.readState s)) (Mode.iy.value s) n) := by
  rw [← Mode.addr_ix_readState .ix]
  rfl

end Sys2Proof.Machine

/-! OR, AND and EOR (R242 to R278). -/

namespace Sys2Proof.Machine

open Sys2Proof Sys2Proof.Claims

theorem computes_or8 : Computes or8 (fun _ x y => x ||| y) (fun _ x y => nz (x ||| y)) :=
  fun _ _ _ => ⟨rfl, fun _ => flagsAre_nz⟩

theorem computes_and8 : Computes and8 (fun _ x y => x &&& y) (fun _ x y => nz (x &&& y)) :=
  fun _ _ _ => ⟨rfl, fun _ => flagsAre_nz⟩

theorem computes_eor8 : Computes eor8 (fun _ x y => x ^^^ y) (fun _ x y => nz (x ^^^ y)) :=
  fun _ _ _ => ⟨rfl, fun _ => flagsAre_nz⟩

/-- Settles O17: every form's meaning is the operation on its operands, its result put in A or stored where the memory
operand was read. -/
theorem logic : Obligations.Logic := by
  unfold Obligations.Logic
  intro d e a s
  refine ⟨fun r hr => ?_, fun r hr => ?_, fun r hr => ?_, fun r hr => ?_, fun r hr => ?_, fun r hr => ?_⟩
  all_goals simp only [orARows, andARows, eorARows, accRows, orMemRows, andMemRows, eorMemRows, memRows, List.mem_cons,
    List.not_mem_nil, or_false] at hr
  · rcases hr with rfl | rfl | rfl | rfl | rfl | rfl | rfl | rfl | rfl
    all_goals exact accumulates_of_exec computes_or8 rfl rfl rfl
  · rcases hr with rfl | rfl | rfl | rfl | rfl | rfl | rfl | rfl | rfl
    all_goals exact accumulates_of_exec computes_and8 rfl rfl rfl
  · rcases hr with rfl | rfl | rfl | rfl | rfl | rfl | rfl | rfl | rfl
    all_goals exact accumulates_of_exec computes_eor8 rfl rfl rfl
  · rcases hr with rfl | rfl | rfl
    · exact combines_of_exec computes_or8 rfl rfl (aluIxIy_eq_combined or8 5 s)
    all_goals exact combines_of_exec computes_or8 rfl rfl rfl
  · rcases hr with rfl | rfl | rfl
    · exact combines_of_exec computes_and8 rfl rfl (aluIxIy_eq_combined and8 5 s)
    all_goals exact combines_of_exec computes_and8 rfl rfl rfl
  · rcases hr with rfl | rfl | rfl
    · exact combines_of_exec computes_eor8 rfl rfl (aluIxIy_eq_combined eor8 5 s)
    all_goals exact combines_of_exec computes_eor8 rfl rfl rfl

end Sys2Proof.Machine

/-! ADC8 and SBC8: R279's formulas are the carries of one addition, and R280's subtraction is the addition of the
complement. -/

namespace Sys2Proof.Machine

open Sys2Proof Sys2Proof.Claims

/-- A longer list of flags that may be written keeps fewer of them. -/
theorem FlagsKeptBut.mono {fs gs : List Flag} {p q : Byte} (h : FlagsKeptBut fs p q) (hsub : fs ⊆ gs) :
    FlagsKeptBut gs p q := fun f hf => h f (mt (@hsub f) hf)

theorem flagsAre_of_psw {fs : List (Flag × Bool)} {s t : State} {psw : Byte} (hpsw : t.cpu.psw = psw)
    (hset : ∀ p ∈ fs, getFlag psw p.1 = p.2) (hkept : FlagsKeptBut (fs.map Prod.fst) s.cpu.psw psw) :
    FlagsAre fs s t := by
  subst hpsw
  exact ⟨hset, hkept⟩

section
variable (c : Bool) (psw a b : Byte)

theorem bitNat_eq_toNat (x : Bool) : bitNat x = x.toNat := by cases x <;> rfl

theorem adcResult_toNat : (adcResult c a b).toNat = (a.toNat + b.toNat + c.toNat) % 256 := BitVec.toNat_ofNat _ 8

theorem adcResult_eq_add : adcResult c a b = a + b + BitVec.setWidth 8 (BitVec.ofBool c) := by
  apply BitVec.eq_of_toNat_eq
  cases c <;> simp [adcResult_toNat]

/-- Bit i of the sum is the sum modulo 2 of the operands' bits and the carry into bit i. -/
theorem adcResult_getLsbD {i : Nat} (hi : i < 8) :
    (adcResult c a b).getLsbD i = (a.getLsbD i ^^ (b.getLsbD i ^^ BitVec.carry i a b c)) := by
  rw [adcResult_eq_add, BitVec.getLsbD_add_add_bool hi]

/-- R279's formula for H is the carry into bit 4. -/
theorem adcHalf_eq : (a ^^^ b ^^^ adcResult c a b).getLsbD 4 =
    decide (16 ≤ a.toNat % 16 + b.toNat % 16 + c.toNat) := by
  have hcarry : BitVec.carry 4 a b c = decide (16 ≤ a.toNat % 16 + b.toNat % 16 + c.toNat) := rfl
  rw [BitVec.getLsbD_xor, BitVec.getLsbD_xor, adcResult_getLsbD c a b (by decide), hcarry]
  cases a.getLsbD 4 <;> cases b.getLsbD 4 <;> simp

theorem getElem_seven (v : Byte) : v[7] = decide (128 ≤ v.toNat) :=
  (BitVec.msb_eq_getLsbD_last v).symm.trans (BitVec.msb_eq_decide v)

/-- R279's formula for V: operands of one sign and a result of the other, which is the signed overflow. -/
theorem adcSigned_eq : ((a ^^^ b ^^^ 0xFF#8) &&& (a ^^^ adcResult c a b)).getLsbD 7 =
    decide ((adcResult c a b).toInt ≠ a.toInt + b.toInt + c.toNat) := by
  have hr := adcResult_toNat c a b
  have hc := c.toNat_le
  have hsigns : ((a ^^^ b ^^^ 0xFF#8) &&& (a ^^^ adcResult c a b)).getLsbD 7 = true ↔
      ((128 ≤ a.toNat ↔ 128 ≤ b.toNat) ∧ ¬ (128 ≤ a.toNat ↔ 128 ≤ (adcResult c a b).toNat)) := by
    simp [getElem_seven]
  rw [Bool.eq_iff_iff, hsigns, decide_eq_true_iff, BitVec.toInt_eq_toNat_cond, BitVec.toInt_eq_toNat_cond a,
    BitVec.toInt_eq_toNat_cond b]
  omega

/-- ADC8 in the words of R279. -/
theorem adc8_eq : adc8 psw a b = (adcResult (getFlag psw .c) a b,
    setNZ8 (setFlag (setFlag (setFlag psw .c (decide (adcSum (getFlag psw .c) a b > 0xFF))) .v
      (((a ^^^ b ^^^ 0xFF#8) &&& (a ^^^ adcResult (getFlag psw .c) a b)).getLsbD 7)) .h
      ((a ^^^ b ^^^ adcResult (getFlag psw .c) a b).getLsbD 4)) (adcResult (getFlag psw .c) a b)) := by
  rw [adcResult, adcSum, ← bitNat_eq_toNat]
  rfl

theorem adc8_flags : ∀ p ∈ adcFlags (getFlag psw .c) a b, getFlag (adc8 psw a b).2 p.1 = p.2 := by
  simp [adcFlags, adc8_eq, beq_eq_decide]

theorem getFlag_adc8_c : getFlag (adc8 psw a b).2 .c = decide (adcSum (getFlag psw .c) a b > 0xFF) := by
  simp [adc8_eq]

theorem getFlag_adc8_v : getFlag (adc8 psw a b).2 .v =
    decide ((adcResult (getFlag psw .c) a b).toInt ≠ a.toInt + b.toInt + (getFlag psw .c).toNat) := by
  rw [← adcSigned_eq, adc8_eq]
  simp

theorem getFlag_adc8_h : getFlag (adc8 psw a b).2 .h =
    decide (16 ≤ a.toNat % 16 + b.toNat % 16 + (getFlag psw .c).toNat) := by
  rw [← adcHalf_eq, adc8_eq]
  simp

theorem complement_toNat : (b ^^^ 0xFF#8).toNat = 255 - b.toNat := by
  rw [show (0xFF#8) = BitVec.allOnes 8 from rfl, BitVec.xor_allOnes, BitVec.toNat_not]

theorem complement_toInt : (b ^^^ 0xFF#8).toInt = -1 - b.toInt := by
  rw [BitVec.toInt_eq_toNat_cond, BitVec.toInt_eq_toNat_cond, complement_toNat]
  omega

/-- SBC8 is ADC8 of the operand's complement (R280). -/
theorem sbcResult_eq_adcResult : sbcResult c a b = adcResult c a (b ^^^ 0xFF#8) := by
  have hb := b.isLt
  have hc := c.toNat_le
  apply BitVec.eq_of_toNat_eq
  rw [adcResult_toNat, sbcResult, BitVec.toNat_ofInt, complement_toNat]
  omega

/-- The borrows of R280 are the carries of R279 with the complement. -/
theorem sbcFlags_eq_adcFlags : sbcFlags c a b = adcFlags c a (b ^^^ 0xFF#8) := by
  have ha := a.isLt
  have hb := b.isLt
  have hC : adcSum c a (b ^^^ 0xFF#8) > 0xFF ↔ (a.toNat : Int) - b.toNat - (1 - c.toNat) ≥ 0 := by
    rw [adcSum, complement_toNat]
    omega
  have hV : (adcResult c a (b ^^^ 0xFF#8)).toInt ≠ a.toInt + (b ^^^ 0xFF#8).toInt + c.toNat ↔
      (adcResult c a (b ^^^ 0xFF#8)).toInt ≠ a.toInt - b.toInt - (1 - c.toNat) := by
    rw [complement_toInt]
    omega
  have hH : 16 ≤ a.toNat % 16 + (b ^^^ 0xFF#8).toNat % 16 + c.toNat ↔
      (a.toNat % 16 : Int) - (b.toNat % 16 : Nat) - (1 - c.toNat) ≥ 0 := by
    rw [complement_toNat]
    omega
  simp only [sbcFlags, adcFlags, sbcResult_eq_adcResult, adcHalf_eq, adcSigned_eq, hC, hV, hH]

end

theorem computes_adc8 : Computes adc8 adcResult adcFlags := fun s x y =>
  ⟨congrArg Prod.fst (adc8_eq s.cpu.psw x y), fun _ ht =>
    flagsAre_of_psw ht (adc8_flags s.cpu.psw x y) ((adc8_kept s.cpu.psw x y).mono
      (gs := [.c, .v, .h, .n, .z]) (by decide))⟩

theorem computes_sbc8 : Computes sbc8 sbcResult sbcFlags := fun s x y => by
  rw [sbcResult_eq_adcResult, sbcFlags_eq_adcFlags]
  exact computes_adc8 s x (y ^^^ 0xFF#8)

/-- Settles O20: each formula of R279 is the overflow or the carry it stands for. -/
theorem adcOverflow : Obligations.AdcOverflow := by
  unfold Obligations.AdcOverflow
  intro psw a b
  dsimp only
  have hr : (adc8 psw a b).1 = adcResult (getFlag psw .c) a b := congrArg Prod.fst (adc8_eq psw a b)
  rw [hr, getFlag_adc8_c, getFlag_adc8_v, getFlag_adc8_h, adcResult_toNat, adcSum]
  refine ⟨?_, decide_eq_true_iff, decide_eq_true_iff⟩
  rw [decide_eq_true_iff]
  omega

end Sys2Proof.Machine

/-! The forms of ADC and SBC (R295 to R318). -/

namespace Sys2Proof.Machine

open Sys2Proof Sys2Proof.Claims

/-- Settles O19: the forms are those of `logic`, over ADC8 and over SBC8. -/
theorem adcSbc : Obligations.AdcSbc := by
  unfold Obligations.AdcSbc
  intro d e a s
  refine ⟨fun r hr => ?_, fun r hr => ?_, fun r hr => ?_, fun r hr => ?_⟩
  all_goals simp only [adcARows, sbcARows, accRows, adcMemRows, sbcMemRows, memRows, List.mem_cons, List.not_mem_nil,
    or_false] at hr
  · rcases hr with rfl | rfl | rfl | rfl | rfl | rfl | rfl | rfl | rfl
    all_goals exact accumulates_of_exec computes_adc8 rfl rfl rfl
  · rcases hr with rfl | rfl | rfl | rfl | rfl | rfl | rfl | rfl | rfl
    all_goals exact accumulates_of_exec computes_sbc8 rfl rfl rfl
  · rcases hr with rfl | rfl | rfl
    · exact combines_of_exec computes_adc8 rfl rfl (aluIxIy_eq_combined adc8 5 s)
    all_goals exact combines_of_exec computes_adc8 rfl rfl rfl
  · rcases hr with rfl | rfl | rfl
    · exact combines_of_exec computes_sbc8 rfl rfl (aluIxIy_eq_combined sbc8 5 s)
    all_goals exact combines_of_exec computes_sbc8 rfl rfl rfl

end Sys2Proof.Machine

/-! CMP (R281, R283 to R294, R319 to R324). -/

namespace Sys2Proof.Machine

open Sys2Proof Sys2Proof.Claims

theorem cmp8_flags (psw a b : Byte) : ∀ p ∈ cmpFlags a b, getFlag (cmp8 psw a b) p.1 = p.2 := by
  simp [cmpFlags, cmp8, nz, beq_eq_decide]

/-- The state after a compare of `x` and `y`: its PSW, then the cycles. -/
def State.compared (u : State) (x y : Byte) (n : Nat) : State := (u.setPsw (cmp8 u.cpu.psw x y)).spend n

theorem State.compared_cpu (u : State) (x y : Byte) (n : Nat) :
    (u.compared x y n).cpu = { u.cpu with psw := cmp8 u.cpu.psw x y } := rfl

theorem quiet_compared {s u : State} (h : Quiet s u) (x y : Byte) (n : Nat) : Quiet s (u.compared x y n) :=
  quiet_trans h ⟨fun _ => rfl, rfl, rfl, rfl, rfl, rfl, rfl, rfl, rfl⟩

theorem flagsAre_compared {s u : State} (h : u.cpu.psw = s.cpu.psw) (x y : Byte) (n : Nat) :
    FlagsAre (cmpFlags x y) s (u.compared x y n) := by
  refine flagsAre_of_psw (psw := cmp8 s.cpu.psw x y) ?_ (cmp8_flags _ x y) ((cmp8_kept _ x y).mono
    (gs := [.c, .n, .z]) (by decide))
  rw [State.compared_cpu, h]

/-- The register `get` reads is not PC, so that fetching an operand leaves it as it is. -/
theorem compares_of_exec {get : Cpu → Byte} (hget : ∀ (c : Cpu) (pc : Word), get { c with pc := pc } = get c)
    {r : Row} {s : State} (hwf : r.instr.WellFormed) (henc : encode r.instr = r.bytes)
    (hexec : exec r.instr s = .next ((r.src.after s).compared (get (r.src.after s).cpu) (r.src.value s) r.cycles)) :
    Compares get cmpFlags r s := by
  have hcpu := srcAfter_cpu r.src s
  rw [hcpu, hget] at hexec
  refine ⟨decode_of_encode hwf henc, _, hexec, ?_, flagsAre_compared ?_ _ _ _,
    quiet_compared (quiet_after s r.src) _ _ _, rfl, rfl⟩
  · rw [State.compared_cpu, hcpu]
  · rw [hcpu]

theorem comparesMem_of_exec {r : PairRow} {s : State} (hwf : r.instr.WellFormed) (henc : encode r.instr = r.bytes)
    (hexec : exec r.instr s = .next ((pairAfter r s).compared (r.dst.value (r.src.after s)) (r.src.value s) r.cycles)) :
    ComparesMem cmpFlags r s := by
  have hcpu := pairAfter_cpu r s
  refine ⟨decode_of_encode hwf henc, _, hexec, ?_, flagsAre_compared ?_ _ _ _,
    quiet_compared (quiet_pairAfter s r) _ _ _, rfl, rfl⟩
  · rw [State.compared_cpu, hcpu]
  · rw [hcpu]

/-- Settles O18: every form's meaning is the comparison of its operands after they were read. -/
theorem compare : Obligations.Compare := by
  unfold Obligations.Compare
  intro d e a s
  refine ⟨fun r hr => ?_, fun r hr => ?_, fun r hr => ?_, fun r hr => ?_⟩
  all_goals simp only [cmpARows, accRows, cmpMemRows, memRows, cmpXRows, cmpYRows, List.mem_cons, List.not_mem_nil,
    or_false] at hr
  · rcases hr with rfl | rfl | rfl | rfl | rfl | rfl | rfl | rfl | rfl
    all_goals exact compares_of_exec (fun _ _ => rfl) rfl rfl rfl
  · rcases hr with rfl | rfl | rfl
    all_goals exact comparesMem_of_exec rfl rfl rfl
  · rcases hr with rfl | rfl | rfl
    all_goals exact compares_of_exec (fun _ _ => rfl) rfl rfl rfl
  · rcases hr with rfl | rfl | rfl
    all_goals exact compares_of_exec (fun _ _ => rfl) rfl rfl rfl

end Sys2Proof.Machine

/-! DAA after ADC on packed decimal numbers (R365). -/

namespace Sys2Proof.Machine

open Sys2Proof Sys2Proof.Claims

/-- A number below 100 in packed decimal form: its tens and its ones, a nibble each. -/
def packed (k : Nat) : Byte := BitVec.ofNat 8 (k / 10 * 16 + k % 10)

theorem packed_toNat {k : Nat} (hk : k < 100) : (packed k).toNat = k / 10 * 16 + k % 10 := by
  rw [packed, BitVec.toNat_ofNat]
  omega

section
variable (psw a : Byte)

/-- DAA's correction of the tens (R365). -/
def daaHigh : Bool := getFlag psw .c || decide (a.toNat > 0x99)

/-- DAA's correction of the ones (R365). -/
def daaLow : Bool := getFlag psw .h || decide (a.toNat % 16 > 9)

theorem getFlag_daa8_c : getFlag (daa8 psw a).2 .c = daaHigh psw a := by
  unfold daa8 daaHigh
  cases hc : getFlag psw .c <;> by_cases ha : a.toNat > 0x99 <;> simp [ha, hc]

/-- The correction of the tens leaves the ones, so each correction is decided on the operand as it was. -/
theorem daa8_toNat : (daa8 psw a).1.toNat =
    (a.toNat + (if daaHigh psw a then 0x60 else 0) + if daaLow psw a then 0x06 else 0) % 256 := by
  have hones : (a + 0x60#8).toNat % 16 = a.toNat % 16 := by bv_omega
  have hlow : (getFlag psw .h || decide (a.toNat % 16 > 9)) = daaLow psw a := rfl
  unfold daa8
  rw [← daaHigh]
  cases daaHigh psw a
  · simp only [Bool.false_eq_true, if_false, hlow]
    cases daaLow psw a <;> simp [Nat.mod_eq_of_lt a.isLt]
  · simp only [if_true, getFlag_setFlag, reduceCtorEq, if_false, hones, hlow]
    cases daaLow psw a <;> simp

end

section
variable {m n : Nat} (hm : m < 100) (hn : n < 100) (psw : Byte)
include hm hn

/-- After the addition of packed numbers the ones are corrected exactly when the decimal ones carry. -/
theorem daaLow_adc8 : daaLow (adc8 psw (packed m) (packed n)).2 (adc8 psw (packed m) (packed n)).1 =
    decide (10 ≤ m % 10 + n % 10 + (getFlag psw .c).toNat) := by
  have hc := (getFlag psw .c).toNat_le
  rw [daaLow, getFlag_adc8_h, adc8_eq, adcResult_toNat, packed_toNat hm, packed_toNat hn, ← Bool.decide_or,
    decide_eq_decide]
  omega

/-- The tens are corrected exactly when the decimal sum carries. -/
theorem daaHigh_adc8 : daaHigh (adc8 psw (packed m) (packed n)).2 (adc8 psw (packed m) (packed n)).1 =
    decide (100 ≤ m + n + (getFlag psw .c).toNat) := by
  have hc := (getFlag psw .c).toNat_le
  rw [daaHigh, getFlag_adc8_c, adcSum, adc8_eq, adcResult_toNat, packed_toNat hm, packed_toNat hn, ← Bool.decide_or,
    decide_eq_decide]
  have hwrap (sum : Nat) : sum > 0xFF ∨ sum % 256 > 0x99 ↔ 0x99 < sum := by omega
  rw [hwrap]
  omega

/-- With both corrections the binary sum of the packed numbers is the packed decimal sum. -/
theorem daa8_adc8 : (daa8 (adc8 psw (packed m) (packed n)).2 (adc8 psw (packed m) (packed n)).1).1 =
    packed ((m + n + (getFlag psw .c).toNat) % 100) := by
  have hc := (getFlag psw .c).toNat_le
  apply BitVec.eq_of_toNat_eq
  rw [daa8_toNat, daaLow_adc8 hm hn, daaHigh_adc8 hm hn, adc8_eq, adcResult_toNat, packed_toNat hm, packed_toNat hn,
    packed_toNat (Nat.mod_lt _ (by decide))]
  simp only [decide_eq_true_eq]
  split_ifs <;> omega

end

/-- Settles O27: DAA's two corrections are the decimal carries of the ones and of the tens. -/
theorem decimalAddition : Obligations.DecimalAddition := by
  unfold Obligations.DecimalAddition
  intro m n psw
  refine ⟨daa8_adc8 m.isLt n.isLt psw, ?_⟩
  have hcarry := (getFlag_daa8_c _ _).trans (daaHigh_adc8 m.isLt n.isLt psw)
  exact hcarry ▸ decide_eq_true_iff

end Sys2Proof.Machine

/-! Operations on one byte with the result in a register or in memory, whatever the operation (R325 to R354, R365,
R366). -/

namespace Sys2Proof.Machine

open Sys2Proof Sys2Proof.Claims

/-- With the PSW of `s`, `op` gives `r` from `v` and writes the flags `fs` and no other. -/
def Yields (op : UnOp) (s : State) (v r : Byte) (fs : List (Flag × Bool)) : Prop :=
  (op s.cpu.psw v).1 = r ∧ ∀ t : State, t.cpu.psw = (op s.cpu.psw v).2 → FlagsAre fs s t

/-- The state after an operation on a register: its result to the register, its PSW, then the cycles. -/
def State.transformed (s : State) (put : Cpu → Byte → Cpu) (r : Byte × Byte) (n : Nat) : State :=
  (State.setPsw { s with cpu := put s.cpu r.1 } r.2).spend n

theorem quiet_transformed {put : Cpu → Byte → Cpu} (hput : PutsRegister put) (s : State) (r : Byte × Byte) (n : Nat) :
    Quiet s (s.transformed put r n) := by
  obtain ⟨-, -, hrun⟩ := hput s.cpu r.1 0
  exact ⟨fun _ => rfl, rfl, rfl, rfl, rfl, rfl, rfl, rfl, hrun⟩

/-- The operation on a memory byte is an operation on two bytes that ignores the second. -/
theorem unMem_eq_combined (op : UnOp) (m : Mode) (n : Nat) (s : State) : unMem op m n s =
    .next ((m.readState s).combined (fun psw v _ => op psw v) (m.addr s) (m.value s) (m.value s) n) := rfl

section
variable {op : UnOp} {f : Bool → Byte → Byte} {flags : Byte → Byte → List (Flag × Bool)} {s : State}

theorem transforms_of_exec {b : Byte} {i : Instr} {get : Cpu → Byte} {put : Cpu → Byte → Cpu} {n : Nat}
    (hput : PutsRegister put)
    (hop : Yields op s (get s.cpu) (f (s.flag .c) (get s.cpu)) (flags (get s.cpu) (f (s.flag .c) (get s.cpu))))
    (hwf : i.WellFormed) (henc : encode i = [b])
    (hexec : exec i s = .next (s.transformed put (op s.cpu.psw (get s.cpu)) n)) :
    Transforms b i get put f flags n s := by
  obtain ⟨hresult, hflags⟩ := hop
  refine ⟨decode_of_encode hwf henc, _, hexec, ?_, hflags _ rfl, quiet_transformed hput s _ n, rfl, rfl⟩
  obtain ⟨hcomm, -, -⟩ := hput s.cpu (op s.cpu.psw (get s.cpu)).1 (op s.cpu.psw (get s.cpu)).2
  rw [← hresult]
  exact hcomm

/-- The result is stored where the byte was read. -/
theorem rewrites_of_exec {r : DestRow}
    (hop : ∀ v, Yields op s v (f (s.flag .c) v) (flags v (f (s.flag .c) v)))
    (hwf : r.instr.WellFormed) (henc : encode r.instr = r.bytes) (hexec : exec r.instr s = unMem op r.dst r.cycles s) :
    Rewrites f flags r s := by
  obtain ⟨hresult, hflags⟩ := hop (r.dst.value s)
  have hcpu := r.dst.readState_cpu s
  have hpsw : (r.dst.readState s).cpu.psw = s.cpu.psw := by rw [hcpu]
  refine ⟨decode_of_encode hwf henc, _, hexec.trans (unMem_eq_combined op _ _ s), ?_, hflags _ ?_,
    hresult ▸ stored_combined (quiet_readState s r.dst) hpsw _ _ _ _ _, rfl⟩
  · rw [State.combined_cpu, hcpu]
  · rw [State.combined_cpu, hpsw]

end

/-- A PSW with C written, then N and Z by SetNZ8. -/
theorem flagsAre_cnz {s t : State} {p r : Byte} {c : Bool} (hpsw : t.cpu.psw = setNZ8 p r)
    (hc : getFlag (setNZ8 p r) .c = c) (hkept : FlagsKeptBut resultFlags s.cpu.psw (setNZ8 p r)) :
    FlagsAre ((.c, c) :: nz r) s t := by
  refine flagsAre_of_psw hpsw ?_ (hkept.mono (gs := [.c, .n, .z]) (by decide))
  simpa [nz, beq_eq_decide] using hc

end Sys2Proof.Machine

/-! ASL, ROL, LSR and ROR (R325 to R341). -/

namespace Sys2Proof.Machine

open Sys2Proof Sys2Proof.Claims

/-- Writing a bit that is clear is an OR with the bit's mask or with 0. -/
theorem withBit_of_clear {v : Byte} {k : Nat} (hclear : v.getLsbD k = false) (x : Bool) :
    withBit v k x = v ||| (if x then 1#8 <<< k else 0) := by
  apply BitVec.eq_of_getLsbD_eq
  intro j hj
  rw [getLsbD_withBit v k j x hj, BitVec.getLsbD_or]
  by_cases hjk : j = k
  · subst hjk
    cases x <;> simp [hclear, getLsbD_oneBit j j hj]
  · cases x <;> simp [hjk, getLsbD_oneBit k j hj]

section
variable (s : State) (v : Byte)

/-- A shift or rotate moves bit k of its operand to C. -/
theorem flagsAre_shift {t : State} {k : Nat} {r : Byte}
    (h : t.cpu.psw = setNZ8 (setFlag s.cpu.psw .c (v.getLsbD k)) r) : FlagsAre (shiftFlags k v r) s t :=
  flagsAre_cnz h (by simp) (setCNZ8_kept _ _ _)

theorem yields_asl8 : Yields asl8 s v (v <<< 1) (shiftFlags 7 v (v <<< 1)) := ⟨rfl, fun _ => flagsAre_shift s v⟩

theorem yields_lsr8 : Yields lsr8 s v (v >>> 1) (shiftFlags 0 v (v >>> 1)) := ⟨rfl, fun _ => flagsAre_shift s v⟩

theorem yields_rol8 : Yields rol8 s v (rolResult (s.flag .c) v) (shiftFlags 7 v (rolResult (s.flag .c) v)) := by
  have hresult : withBit (v <<< 1) 0 (s.flag .c) = rolResult (s.flag .c) v := withBit_of_clear (by simp) _
  rw [← hresult]
  exact ⟨rfl, fun _ => flagsAre_shift s v⟩

theorem yields_ror8 : Yields ror8 s v (rorResult (s.flag .c) v) (shiftFlags 0 v (rorResult (s.flag .c) v)) := by
  have hresult : withBit (v >>> 1) 7 (s.flag .c) = rorResult (s.flag .c) v := withBit_of_clear (by simp) _
  rw [← hresult]
  exact ⟨rfl, fun _ => flagsAre_shift s v⟩

end

/-- Settles O21: every form's meaning is its shift or rotate of A or of the byte read, stored where it was read. -/
theorem shifts : Obligations.Shifts := by
  unfold Obligations.Shifts
  intro d a s
  refine ⟨transforms_of_exec putsRegister_putA (yields_asl8 s _) rfl rfl rfl, fun r hr => ?_,
    transforms_of_exec putsRegister_putA (yields_rol8 s _) rfl rfl rfl, fun r hr => ?_,
    transforms_of_exec putsRegister_putA (yields_lsr8 s _) rfl rfl rfl, fun r hr => ?_,
    transforms_of_exec putsRegister_putA (yields_ror8 s _) rfl rfl rfl, fun r hr => ?_⟩
  all_goals simp only [aslRows, rolRows, lsrRows, rorRows, rmwRows, List.mem_cons, List.not_mem_nil, or_false] at hr
  · rcases hr with rfl | rfl | rfl
    all_goals exact rewrites_of_exec (yields_asl8 s) rfl rfl rfl
  · rcases hr with rfl | rfl | rfl
    all_goals exact rewrites_of_exec (yields_rol8 s) rfl rfl rfl
  · rcases hr with rfl | rfl | rfl
    all_goals exact rewrites_of_exec (yields_lsr8 s) rfl rfl rfl
  · rcases hr with rfl | rfl | rfl
    all_goals exact rewrites_of_exec (yields_ror8 s) rfl rfl rfl

end Sys2Proof.Machine

/-! INC and DEC (R342 to R353). -/

namespace Sys2Proof.Machine

open Sys2Proof Sys2Proof.Claims

theorem yields_dec8 (s : State) (v : Byte) : Yields dec8 s v (v - 1) (nz (v - 1)) := ⟨rfl, fun _ => flagsAre_nz⟩

theorem yields_inc8 (s : State) (v : Byte) : Yields inc8 s v (v + 1) (nz (v + 1)) := ⟨rfl, fun _ => flagsAre_nz⟩

/-- Settles O22: every form's meaning is the subtraction or the addition of 1 modulo 256, on a register or on the byte
read. -/
theorem decInc : Obligations.DecInc := by
  unfold Obligations.DecInc
  intro d a s
  refine ⟨transforms_of_exec putsRegister_putA (yields_dec8 s _) rfl rfl rfl,
    transforms_of_exec putsRegister_putX (yields_dec8 s _) rfl rfl rfl,
    transforms_of_exec putsRegister_putY (yields_dec8 s _) rfl rfl rfl, fun r hr => ?_,
    transforms_of_exec putsRegister_putA (yields_inc8 s _) rfl rfl rfl,
    transforms_of_exec putsRegister_putX (yields_inc8 s _) rfl rfl rfl,
    transforms_of_exec putsRegister_putY (yields_inc8 s _) rfl rfl rfl, fun r hr => ?_⟩
  all_goals simp only [decRows, incRows, rmwRows, List.mem_cons, List.not_mem_nil, or_false] at hr
  · rcases hr with rfl | rfl | rfl
    all_goals exact rewrites_of_exec (yields_dec8 s) rfl rfl rfl
  · rcases hr with rfl | rfl | rfl
    all_goals exact rewrites_of_exec (yields_inc8 s) rfl rfl rfl

end Sys2Proof.Machine

/-! XCN, DAA and DAS (R354, R365, R366). -/

namespace Sys2Proof.Machine

open Sys2Proof Sys2Proof.Claims

/-- An operation on A whose result and flags are given for the state as it is. -/
theorem transformsA_of_exec {op : UnOp} {s : State} {r b : Byte} {fs : List (Flag × Bool)} {i : Instr} {n : Nat}
    (hop : Yields op s s.cpu.a r fs) (hwf : i.WellFormed) (henc : encode i = [b]) (hexec : exec i s = unA op n s) :
    Transforms b i Cpu.a putA (fun _ _ => r) (fun _ _ => fs) n s :=
  transforms_of_exec putsRegister_putA hop hwf henc hexec

/-- A flag other than the one a correction may write. -/
theorem getFlag_ite_setFlag {f g : Flag} (hne : g ≠ f) (corrected x : Bool) (psw : Byte) :
    getFlag (if corrected then setFlag psw f x else psw) g = getFlag psw g := by
  cases corrected <;> simp [hne]

section
variable (psw a : Byte)

/-- DAA's result: the correction of the tens, then that of the ones (R365). -/
def daaResult : Byte :=
  let t := if daaHigh psw a then a + 0x60 else a
  if getFlag psw .h || decide (t.toNat % 16 > 9) then t + 0x06 else t

/-- DAS's correction of the tens (R366). -/
def dasHigh : Bool := !getFlag psw .c || decide (a.toNat > 0x99)

/-- DAS's result: the correction of the tens, then that of the ones (R366). -/
def dasResult : Byte :=
  let t := if dasHigh psw a then a - 0x60 else a
  if !getFlag psw .h || decide (t.toNat % 16 > 9) then t - 0x06 else t

/-- XCN's result (R354). -/
def swapNibbles : Byte := BitVec.ofNat 8 (a.toNat % 16 * 16 + a.toNat / 16)

/-- The correction of the tens leaves H, which the correction of the ones reads. -/
theorem daa8_fst : (daa8 psw a).1 = daaResult psw a := by
  rw [daaResult, ← getFlag_ite_setFlag (show Flag.h ≠ .c by decide) (daaHigh psw a) true psw]
  rfl

theorem das8_fst : (das8 psw a).1 = dasResult psw a := by
  rw [dasResult, ← getFlag_ite_setFlag (show Flag.h ≠ .c by decide) (dasHigh psw a) false psw]
  rfl

/-- Where DAS does not correct the tens, C is set already. -/
theorem getFlag_das8_c : getFlag (das8 psw a).2 .c = !dasHigh psw a := by
  unfold das8 dasHigh
  cases hc : getFlag psw .c <;> by_cases ha : a.toNat > 0x99 <;> simp [ha, hc]

/-- The low nibble moved up and the high nibble moved down do not overlap, so their OR is their sum. -/
theorem xcn8_fst : (xcn8 psw a).1 = swapNibbles a := by
  have ha := a.isLt
  have hlow : a.toNat <<< 4 % 2 ^ 8 = (a.toNat % 16) <<< 4 := by omega
  apply BitVec.eq_of_toNat_eq
  rw [xcn8, swapNibbles, BitVec.toNat_or, BitVec.toNat_shiftLeft, BitVec.toNat_ushiftRight, hlow,
    ← Nat.shiftLeft_add_eq_or_of_lt (by omega), BitVec.toNat_ofNat]
  omega

end

section
variable (s : State) (a : Byte)

theorem yields_daa8 : Yields daa8 s a (daaResult s.cpu.psw a)
    ((.c, daaHigh s.cpu.psw a) :: nz (daaResult s.cpu.psw a)) := by
  rw [← daa8_fst]
  exact ⟨rfl, fun _ ht => flagsAre_cnz ht (getFlag_daa8_c _ a) (daa8_kept _ a)⟩

theorem yields_das8 : Yields das8 s a (dasResult s.cpu.psw a)
    ((.c, !dasHigh s.cpu.psw a) :: nz (dasResult s.cpu.psw a)) := by
  rw [← das8_fst]
  exact ⟨rfl, fun _ ht => flagsAre_cnz ht (getFlag_das8_c _ a) (das8_kept _ a)⟩

theorem yields_xcn8 : Yields xcn8 s a (swapNibbles a) (nz (swapNibbles a)) := by
  rw [← xcn8_fst s.cpu.psw]
  exact ⟨rfl, fun _ => flagsAre_nz⟩

end

/-- Settles O26: each is an operation on A with the result and the flags of its rule. -/
theorem decimalAndXcn : Obligations.DecimalAndXcn := by
  unfold Obligations.DecimalAndXcn
  intro s
  exact ⟨transformsA_of_exec (yields_daa8 s _) rfl rfl rfl, transformsA_of_exec (yields_das8 s _) rfl rfl rfl,
    transformsA_of_exec (yields_xcn8 s _) rfl rfl rfl⟩

end Sys2Proof.Machine

/-! Word operations with the result in YA: the rules shared by MOVW, ADDW, SUBW, CMPW, MUL and DIV (R38, R356, R360 to
R364). -/

namespace Sys2Proof.Machine

open Sys2Proof Sys2Proof.Claims

/-- The state after a word operation: its result to YA, its PSW, then the cycles. -/
def State.wordPut (u : State) (r : Word × Byte) (n : Nat) : State := ((u.setYA r.1).setPsw r.2).spend n

theorem State.wordPut_cpu (u : State) (r : Word × Byte) (n : Nat) :
    (u.wordPut r n).cpu = { u.cpu with a := loByte r.1, y := hiByte r.1, psw := r.2 } := rfl

theorem quiet_wordPut {s u : State} (h : Quiet s u) (r : Word × Byte) (n : Nat) : Quiet s (u.wordPut r n) :=
  quiet_trans h ⟨fun _ => rfl, rfl, rfl, rfl, rfl, rfl, rfl, rfl, rfl⟩

/-- Writing YA with what it holds changes nothing (R38). -/
theorem State.setYA_ya (u : State) : u.setYA u.ya = u := by
  simp [State.setYA, State.setA, State.setY, State.ya]

theorem setNZ16_flags (psw : Byte) (w : Word) : ∀ p ∈ nzW w, getFlag (setNZ16 psw w) p.1 = p.2 := by
  simp [nzW, beq_eq_decide]

/-- SetNZ16 writes no flag but N and Z, so not C either (R12). -/
theorem setNZ16_kept_nz (psw : Byte) (w : Word) : FlagsKeptBut ((nzW w).map Prod.fst) psw (setNZ16 psw w) :=
  (FlagsKeptBut.refl _ psw).setNZ16 (by simp [nzW]) (by simp [nzW]) w

end Sys2Proof.Machine

/-! MOVW to YA, ADDW, SUBW and CMPW (R356, R360 to R362). -/

namespace Sys2Proof.Machine

open Sys2Proof Sys2Proof.Claims

/-- The state after the operand byte was fetched and the direct-page word was read (R10). -/
def State.wordRead (s : State) (d : Byte) : State := s.passOperand.touchDpWord d

theorem State.wordRead_cpu (s : State) (d : Byte) : (s.wordRead d).cpu = { s.cpu with pc := s.cpu.pc + 1 } := by
  rw [State.wordRead, State.touchDpWord_cpu, State.passOperand_cpu]

theorem State.wordRead_ya (s : State) (d : Byte) : (s.wordRead d).ya = s.ya := by
  rw [State.ya, State.wordRead_cpu, State.ya]

theorem quiet_wordRead (s : State) (d : Byte) : Quiet s (s.wordRead d) :=
  quiet_trans (quiet_passOperand s) (quiet_touchDpWord _ d)

/-- The operation sees PSW and YA as they were before the reads. -/
theorem wordYA_eq_wordPut (op : Byte → Word → Word → Word × Byte) (d : Byte) (n : Nat) (s : State) :
    wordYA op d n s = .next ((s.wordRead d).wordPut (op s.cpu.psw s.ya (s.passOperand.dpWord d)) n) := by
  have hpsw : (s.wordRead d).cpu.psw = s.cpu.psw := by rw [State.wordRead_cpu]
  rw [← hpsw, ← s.wordRead_ya d]
  rfl

/-- CMPW is a word operation whose result is YA itself. -/
theorem execCmpwYADp_eq_wordYA (d : Byte) (s : State) :
    execCmpwYADp d s = wordYA (fun psw ya w => (ya, cmpw16 psw ya w)) d 4 s := by
  simp only [execCmpwYADp, wordYA, State.setYA_ya]

/-- What a word operation on YA and a direct-page word does, from its result and the flags its PSW holds. -/
theorem wordOp_of_exec {op : Byte → Word → Word → Word × Byte} {b d : Byte} {i : Instr} {n : Nat} {s : State}
    {fs : List (Flag × Bool)} (hset : ∀ p ∈ fs, getFlag (op s.cpu.psw s.ya (s.passOperand.dpWord d)).2 p.1 = p.2)
    (hkept : FlagsKeptBut (fs.map Prod.fst) s.cpu.psw (op s.cpu.psw s.ya (s.passOperand.dpWord d)).2)
    (hwf : i.WellFormed) (henc : encode i = [b, d]) (hexec : exec i s = wordYA op d n s) :
    let result := (op s.cpu.psw s.ya (s.passOperand.dpWord d)).1
    decode [b, d] = .ok (i, []) ∧ ∃ t, exec i s = .next t ∧
      t.cpu = { s.cpu with a := loByte result, y := hiByte result, pc := s.cpu.pc + 1, psw := t.cpu.psw } ∧
      FlagsAre fs s t ∧ Quiet s t ∧ t.io = (s.passOperand.touchDpWord d).io ∧ t.cycles = n := by
  refine ⟨decode_of_encode hwf henc, _, hexec.trans (wordYA_eq_wordPut op d n s), ?_,
    flagsAre_of_psw rfl hset hkept, quiet_wordPut (quiet_wordRead s d) _ _, rfl, rfl⟩
  rw [State.wordPut_cpu, State.wordRead_cpu]

section
variable (psw : Byte) (ya w : Word)

/-- The flags of R360. -/
def addwFlags : List (Flag × Bool) :=
  let sum := BitVec.ofNat 16 (ya.toNat + w.toNat)
  [(.c, decide (ya.toNat + w.toNat > 0xFFFF)), (.v, ((ya ^^^ w ^^^ 0xFFFF#16) &&& (ya ^^^ sum)).getLsbD 15),
    (.h, (ya ^^^ w ^^^ sum).getLsbD 12)] ++ nzW sum

/-- The flags of R361. -/
def subwFlags : List (Flag × Bool) :=
  [(.c, decide (ya.toNat ≥ w.toNat)), (.v, ((ya ^^^ w) &&& (ya ^^^ (ya - w))).getLsbD 15),
    (.h, !(ya ^^^ w ^^^ (ya - w)).getLsbD 12)] ++ nzW (ya - w)

/-- The flags of R362. -/
def cmpwFlags : List (Flag × Bool) := (.c, decide (ya.toNat ≥ w.toNat)) :: nzW (ya - w)

theorem addw16_flags : ∀ p ∈ addwFlags ya w, getFlag (addw16 psw ya w).2 p.1 = p.2 := by
  simp [addwFlags, addw16, nzW, beq_eq_decide]

theorem subw16_flags : ∀ p ∈ subwFlags ya w, getFlag (subw16 psw ya w).2 p.1 = p.2 := by
  simp [subwFlags, subw16, nzW, beq_eq_decide]

theorem cmpw16_flags : ∀ p ∈ cmpwFlags ya w, getFlag (cmpw16 psw ya w) p.1 = p.2 := by
  simp [cmpwFlags, cmpw16, nzW, beq_eq_decide]

end

/-- Settles O23: each is a word operation on YA and the word read, with the result and the flags of its rule. -/
theorem wordToYA : Obligations.WordToYA := by
  unfold Obligations.WordToYA
  intro d s w ya sum
  refine ⟨wordOp_of_exec (op := fun psw _ w => (w, setNZ16 psw w)) (setNZ16_flags _ w) (setNZ16_kept_nz _ w) rfl rfl
      rfl,
    wordOp_of_exec (op := addw16) (addw16_flags _ ya w) ?_ rfl rfl rfl,
    wordOp_of_exec (op := subw16) (subw16_flags _ ya w) ?_ rfl rfl rfl,
    wordOp_of_exec (op := fun psw ya w => (ya, cmpw16 psw ya w)) (cmpw16_flags _ ya w) ?_ rfl rfl
      (execCmpwYADp_eq_wordYA d s)⟩
  · exact (addw16_kept _ ya w).mono (gs := [.c, .v, .h, .n, .z]) (by decide)
  · exact (subw16_kept _ ya w).mono (gs := [.c, .v, .h, .n, .z]) (by decide)
  · exact (cmpw16_kept _ ya w).mono (gs := [.c, .n, .z]) (by decide)

end Sys2Proof.Machine

/-! MOVW to memory, INCW and DECW (R357 to R359). -/

namespace Sys2Proof.Machine

open Sys2Proof Sys2Proof.Claims

/-- The bytes `v` and `w` of the direct-page word at offset `d` are stored and no other, the low byte by a bus write from
`u` to `u'`; the clock and `cpu_run` stay. -/
def StoresWord (d v w : Byte) (s u u' t : State) : Prop :=
  t.ram.read (s.dpAddr d).toNat = v ∧ t.ram.read (s.dpAddr (d + 1)).toNat = w ∧
  (∀ b : Nat, b ≠ (s.dpAddr d).toNat → b ≠ (s.dpAddr (d + 1)).toNat → t.ram.read b = s.ram.read b) ∧
  u' = u.memWrite (s.dpAddr d) v ∧ t.clk = s.clk ∧ t.cpu.run = s.cpu.run

/-- The low byte survives the write of the high byte, which lies elsewhere. -/
theorem storesWord_of_ram {d v w : Byte} {s u t : State}
    (hram : t.ram = (s.ram.write (s.dpAddr d).toNat v).write (s.dpAddr (d + 1)).toNat w) (hclk : t.clk = s.clk)
    (hrun : t.cpu.run = s.cpu.run) : StoresWord d v w s u (u.memWrite (s.dpAddr d) v) t := by
  refine ⟨?_, ?_, fun b hlo hhi => ?_, rfl, hclk, hrun⟩ <;> rw [hram]
  · rw [Memory.read_write_ne _ _ (s.dpAddr_next_ne d), Memory.read_write_same]
  · rw [Memory.read_write_same]
  · rw [Memory.read_write_ne _ _ hhi, Memory.read_write_ne _ _ hlo]

theorem flagsAre_nzW {s t : State} {w : Word} (h : t.cpu.psw = setNZ16 s.cpu.psw w) : FlagsAre (nzW w) s t :=
  flagsAre_of_psw h (setNZ16_flags _ w) (setNZ16_kept_nz _ w)

/-- MOVW to memory: a dummy read of the low byte's address, then the two writes (R357). -/
theorem exec_movwDpYA (d : Byte) (s : State) : exec (.movwDpYA d) s =
    .next ((((s.passOperand.dummyRead (s.dpAddr d)).memWrite (s.dpAddr d) s.cpu.a).memWrite (s.dpAddr (d + 1))
      s.cpu.y).spend 5) := by
  simp [exec, execMovwDpYA]

/-- The low byte of a word's successor needs no high byte (R358). -/
theorem loByte_wordOf_add_one (h l : Byte) : loByte (wordOf h l + 1) = l + 1 := by
  apply BitVec.eq_of_toNat_eq
  rw [toNat_loByte, BitVec.toNat_add, toNat_wordOf, BitVec.toNat_add]
  bv_omega

/-- The low byte of a word's predecessor needs no high byte (R359). -/
theorem loByte_wordOf_sub_one (h l : Byte) : loByte (wordOf h l - 1) = l - 1 := by
  apply BitVec.eq_of_toNat_eq
  rw [toNat_loByte, BitVec.toNat_sub, toNat_wordOf, BitVec.toNat_sub]
  bv_omega

/-- The state of INCW and DECW when the low byte has been written. -/
def State.lowStepped (s : State) (low : Byte → Byte) (d : Byte) : State :=
  (s.passOperand.touch (s.dpAddr d)).memWrite (s.dpAddr d) (low (s.passOperand.peek (s.dpAddr d)))

/-- The word INCW and DECW step: its low byte as read, its high byte read after the low byte was written. -/
def State.steppedWord (s : State) (low : Byte → Byte) (d : Byte) : Word :=
  wordOf ((s.lowStepped low d).peek (s.dpAddr (d + 1))) (s.passOperand.peek (s.dpAddr d))

theorem State.lowStepped_cpu (s : State) (low : Byte → Byte) (d : Byte) :
    (s.lowStepped low d).cpu = { s.cpu with pc := s.cpu.pc + 1 } := by
  simp [State.lowStepped, State.passOperand_cpu]

theorem wordStep_eq (low : Byte → Byte) (step : Word → Word) (d : Byte) (n : Nat) (s : State) :
    wordStep low step d n s = .next (((((s.lowStepped low d).touch (s.dpAddr (d + 1))).memWrite (s.dpAddr (d + 1))
      (hiByte (step (s.steppedWord low d)))).putNZ16 (step (s.steppedWord low d))).spend n) := by
  simp only [wordStep, State.dpAddr_memWrite, State.dpAddr_touch, State.dpAddr_passOperand]
  rfl

/-- INCW and DECW write the low byte, then read and write the high byte (R358, R359). -/
theorem wordStep_of_exec {low : Byte → Byte} {step : Word → Word} {b d : Byte} {i : Instr} {s : State}
    (hlow : ∀ h l, loByte (step (wordOf h l)) = low l) (hwf : i.WellFormed) (henc : encode i = [b, d])
    (hexec : exec i s = wordStep low step d 6 s) :
    decode [b, d] = .ok (i, []) ∧ ∃ u t, exec i s = .next t ∧
      let p := s.passOperand
      let lo := s.dpAddr d
      let hi := s.dpAddr (d + 1)
      let result := step (wordOf (u.peek hi) (p.peek lo))
      loByte result = low (p.peek lo) ∧ t.cpu = { s.cpu with pc := s.cpu.pc + 1, psw := t.cpu.psw } ∧
      FlagsAre (nzW result) s t ∧ StoresWord d (low (p.peek lo)) (hiByte result) s (p.touch lo) u t ∧
      t = { (u.touch hi).memWrite hi (hiByte result) with cpu := t.cpu, cycles := 6 } := by
  have hcpu := s.lowStepped_cpu low d
  refine ⟨decode_of_encode hwf henc, s.lowStepped low d, _, hexec.trans (wordStep_eq low step d 6 s), hlow _ _, ?_,
    flagsAre_nzW ?_, storesWord_of_ram ?_ ?_ ?_, rfl⟩
  · simp [State.putNZ16, State.setPsw, hcpu]
  · simp [hcpu, State.steppedWord]
  · simp [State.lowStepped, State.steppedWord]
  · simp [State.lowStepped]
  · simp [hcpu]

/-- Settles O24: MOVW writes the two bytes after the dummy read; INCW and DECW write the low byte, step the word with the
high byte read after that, and write its high byte. -/
theorem wordToMemory : Obligations.WordToMemory := by
  unfold Obligations.WordToMemory
  intro d s p lo hi stores
  refine ⟨⟨decode_of_encode rfl rfl, _, _, exec_movwDpYA d s, ?_, storesWord_of_ram ?_ ?_ ?_, rfl⟩, fun r hr => ?_⟩
  · simp [State.passOperand_cpu]
  · simp
  · simp
  · simp
  · simp only [List.mem_cons, List.not_mem_nil, or_false] at hr
    rcases hr with rfl | rfl
    · exact wordStep_of_exec loByte_wordOf_add_one rfl rfl rfl
    · exact wordStep_of_exec loByte_wordOf_sub_one rfl rfl rfl

end Sys2Proof.Machine

/-! MUL and DIV (R363, R364). -/

namespace Sys2Proof.Machine

open Sys2Proof Sys2Proof.Claims

/-- The product of two bytes fits in YA (R363). -/
theorem mul8_toNat (psw y a : Byte) : (mul8 psw y a).1.toNat = y.toNat * a.toNat := by
  have hlt : y.toNat * a.toNat < 2 ^ 16 := by
    simpa using Nat.mul_lt_mul'' y.isLt a.isLt
  rw [mul8, BitVec.toNat_ofNat, Nat.mod_eq_of_lt hlt]

/-- The number the second branch of R364 subtracts from 255 is at most 255. -/
theorem divCorrection_le (y a x : Byte) : (y.toNat * 256 + a.toNat - x.toNat * 512) / (256 - x.toNat) ≤ 255 := by
  have ha := a.isLt
  have hx := x.isLt
  have hy := y.isLt
  rw [← Nat.lt_succ_iff, Nat.div_lt_iff_lt_mul (by omega)]
  omega

section
variable {psw y a x : Byte}

/-- DIV's quotient and remainder as they are before they are cut to eight bits (R364). -/
theorem div8_toNat : (loByte (div8 psw y a x).1).toNat = divQuotient (wordOf y a).toNat y x % 256 ∧
    (hiByte (div8 psw y a x).1).toNat = divRemainder (wordOf y a).toNat y x % 256 := by
  simp [div8]

/-- The first branch of R364: the true quotient, cut to eight bits, and the true remainder. -/
theorem div8_of_lt (h : y.toNat < 2 * x.toNat) :
    (loByte (div8 psw y a x).1).toNat = (y.toNat * 256 + a.toNat) / x.toNat % 256 ∧
    (hiByte (div8 psw y a x).1).toNat = (y.toNat * 256 + a.toNat) % x.toNat := by
  obtain ⟨hquotient, hremainder⟩ := div8_toNat (psw := psw) (y := y) (a := a) (x := x)
  have hbranch : y.toNat < x.toNat * 2 := by omega
  have hlt := Nat.mod_lt (y.toNat * 256 + a.toNat) (show 0 < x.toNat by omega)
  rw [toNat_wordOf, divQuotient, if_pos hbranch] at hquotient
  rw [toNat_wordOf, divRemainder, if_pos hbranch, Nat.mod_eq_of_lt (hlt.trans x.isLt)] at hremainder
  exact ⟨hquotient, hremainder⟩

/-- The second branch of R364: both numbers fit in eight bits. -/
theorem div8_of_le (h : 2 * x.toNat ≤ y.toNat) :
    (loByte (div8 psw y a x).1).toNat = 255 - (y.toNat * 256 + a.toNat - x.toNat * 512) / (256 - x.toNat) ∧
    (hiByte (div8 psw y a x).1).toNat = x.toNat + (y.toNat * 256 + a.toNat - x.toNat * 512) % (256 - x.toNat) := by
  obtain ⟨hquotient, hremainder⟩ := div8_toNat (psw := psw) (y := y) (a := a) (x := x)
  have hbranch : ¬ y.toNat < x.toNat * 2 := by omega
  have hx := x.isLt
  have hlt := Nat.mod_lt (y.toNat * 256 + a.toNat - x.toNat * 512) (show 0 < 256 - x.toNat by omega)
  rw [toNat_wordOf, divQuotient, if_neg hbranch, Nat.mod_eq_of_lt ((Nat.sub_le _ _).trans_lt (by decide))] at hquotient
  rw [toNat_wordOf, divRemainder, if_neg hbranch, Nat.mod_eq_of_lt (by omega)] at hremainder
  exact ⟨hquotient, hremainder⟩

/-- When Y < X, DIV is the exact division (R364). -/
theorem div8_exact (h : y.toNat < x.toNat) :
    (loByte (div8 psw y a x).1).toNat * x.toNat + (hiByte (div8 psw y a x).1).toNat = y.toNat * 256 + a.toNat ∧
    (hiByte (div8 psw y a x).1).toNat < x.toNat := by
  obtain ⟨hquotient, hremainder⟩ := div8_of_lt (psw := psw) (a := a) (show y.toNat < 2 * x.toNat by omega)
  have ha := a.isLt
  have hlt : (y.toNat * 256 + a.toNat) / x.toNat < 256 := Nat.div_lt_of_lt_mul (by omega)
  rw [hquotient, hremainder, Nat.mod_eq_of_lt hlt]
  exact ⟨Nat.div_add_mod' _ _, Nat.mod_lt _ (by omega)⟩

/-- When X ≤ Y < 2X, the quotient has nine bits and the ninth is set (R364). -/
theorem div8_nine_bits (h : x.toNat ≤ y.toNat) (h' : y.toNat < 2 * x.toNat) :
    (256 + (loByte (div8 psw y a x).1).toNat) * x.toNat + (hiByte (div8 psw y a x).1).toNat =
      y.toNat * 256 + a.toNat := by
  obtain ⟨hquotient, hremainder⟩ := div8_of_lt (psw := psw) (a := a) h'
  have ha := a.isLt
  have hge : 256 ≤ (y.toNat * 256 + a.toNat) / x.toNat := (Nat.le_div_iff_mul_le (by omega)).2 (by omega)
  have hlt : (y.toNat * 256 + a.toNat) / x.toNat < 512 := Nat.div_lt_of_lt_mul (by omega)
  have hninth : 256 + (y.toNat * 256 + a.toNat) / x.toNat % 256 = (y.toNat * 256 + a.toNat) / x.toNat := by omega
  rw [hquotient, hremainder, hninth]
  exact Nat.div_add_mod' _ _

/-- The result for X = 0 (R364). -/
theorem div8_zero (h : x.toNat = 0) : (loByte (div8 psw y a x).1).toNat = 255 - y.toNat ∧
    hiByte (div8 psw y a x).1 = a := by
  obtain ⟨hquotient, hremainder⟩ := div8_of_le (psw := psw) (a := a) (show 2 * x.toNat ≤ y.toNat by omega)
  rw [h, Nat.zero_mul, Nat.sub_zero, Nat.sub_zero] at hquotient hremainder
  have ha := a.isLt
  exact ⟨by omega, BitVec.eq_of_toNat_eq (by omega)⟩

theorem div8_flags : ∀ p ∈ ([(.v, decide (y.toNat ≥ x.toNat)), (.h, decide (y.toNat % 16 ≥ x.toNat % 16))] ++
    nz (loByte (div8 psw y a x).1) : List (Flag × Bool)), getFlag (div8 psw y a x).2 p.1 = p.2 := by
  simp [div8, nz, beq_eq_decide]

/-- DIV does not write C (R364). -/
theorem div8_kept_vhnz : FlagsKeptBut [.v, .h, .n, .z] psw (div8 psw y a x).2 :=
  (((FlagsKeptBut.refl _ psw).setFlag (by decide) _).setFlag (by decide) _).setNZ8 (by decide) (by decide) _

end

/-- Settles O25: the product fits in YA; DIV's corners follow from the two branches of its rule. -/
theorem mulDiv : Obligations.MulDiv := by
  unfold Obligations.MulDiv
  intro s
  refine ⟨⟨rfl, s.wordPut (mul8 s.cpu.psw s.cpu.y s.cpu.a) 9, rfl, ?_, rfl, flagsAre_nz rfl,
    quiet_wordPut (quiet_refl s) _ _, rfl, rfl⟩, rfl, s.wordPut (div8 s.cpu.psw s.cpu.y s.cpu.a s.cpu.x) 12, rfl, ?_⟩
  · exact (congrArg BitVec.toNat (s.ya_setYA _)).trans (mul8_toNat _ _ _)
  intro x y ya
  rw [State.wordPut_cpu]
  dsimp only
  refine ⟨div8_of_lt, fun hle => ?_, div8_exact, div8_nine_bits, div8_zero, rfl,
    flagsAre_of_psw rfl div8_flags div8_kept_vhnz, quiet_wordPut (quiet_refl s) _ _, rfl, rfl⟩
  obtain ⟨hquotient, hremainder⟩ := div8_of_le (psw := s.cpu.psw) (a := s.cpu.a) hle
  have hcorrection := divCorrection_le s.cpu.y s.cpu.a s.cpu.x
  refine ⟨?_, hremainder⟩
  rw [hquotient, Int.natCast_sub hcorrection]
  rfl

end Sys2Proof.Machine

/-! A store does not look at PSW: the PSW may be written before it or after it (R105). -/

namespace Sys2Proof.Machine

open Sys2Proof

section
variable (s : State) (psw : Byte)

theorem State.setPsw_self : s.setPsw s.cpu.psw = s := rfl

theorem State.startTimer_setPsw (v : Byte) (k : Fin 3) :
    (s.setPsw psw).startTimer v k = (s.startTimer v k).setPsw psw := by
  unfold State.startTimer
  rw [State.setPsw_io]
  split <;> rfl

theorem State.writeControl_setPsw (v : Byte) : (s.setPsw psw).writeControl v = (s.writeControl v).setPsw psw := by
  have hports : ({ s.setPsw psw with io := { s.io with cpuioIn := clearPorts v s.io.cpuioIn } } : State) =
    State.setPsw { s with io := { s.io with cpuioIn := clearPorts v s.io.cpuioIn } } psw := rfl
  simp only [State.writeControl, State.setPsw_io]
  rw [hports, State.startTimer_setPsw, State.startTimer_setPsw, State.startTimer_setPsw]
  rfl

theorem State.ioWrite_setPsw (v : Byte) (r : IoReg) : (s.setPsw psw).ioWrite v r = (s.ioWrite v r).setPsw psw := by
  cases r with
  | control => exact s.writeControl_setPsw psw v
  | test | dspData =>
    rw [State.ioWrite, State.ioWrite, State.setPsw_io]
    split <;> rfl
  | dspAddr | cpuio | plain | tTarget | tOut => rfl

theorem State.memWrite_setPsw (a : Word) (v : Byte) : (s.setPsw psw).memWrite a v = (s.memWrite a v).setPsw psw := by
  unfold State.memWrite
  split
  · exact (s.setRam a v).ioWrite_setPsw psw v _
  · rfl

end

end Sys2Proof.Machine

/-! The operand word of the `m.b` forms, and the writing of one bit of a byte (R159, R368, R369, R378). -/

namespace Sys2Proof.Machine

open Sys2Proof

/-- The address field of an operand word is its remainder modulo 0x2000 (R159). -/
theorem ofNat_mod_eq_mbitAddress (w : Word) : BitVec.ofNat 16 (w.toNat % 0x2000) = mbitAddress w := by
  apply BitVec.eq_of_toNat_eq
  rw [mbitAddress, BitVec.toNat_and, show (0x1FFF#16).toNat = 2 ^ 13 - 1 from rfl, Nat.and_two_pow_sub_one_eq_mod,
    BitVec.toNat_ofNat]
  omega

/-- Every word is the operand word of its address and its bit number, both as numbers (R159). -/
theorem encodesTo_mbitOperand {mk : Word → Nat → Instr} {op : Byte}
    (hwf : ∀ m b, (mk m b).wellFormed = Instr.mbitFits m b)
    (henc : ∀ m b, encode (mk m b) = [op, loByte (mbitWord m b), hiByte (mbitWord m b)]) (w : Word) :
    EncodesTo (mk (BitVec.ofNat 16 (w.toNat % 0x2000)) (w.toNat / 0x2000)) .mbit op (loByte w) (hiByte w) := by
  have hfields := encodesTo_mbit hwf henc (loByte w) (hiByte w)
  rwa [wordOf_hiByte_loByte, ← ofNat_mod_eq_mbitAddress] at hfields

theorem withBit_false (v : Byte) (k : Nat) : withBit v k false = v &&& (0xFF#8 ^^^ (1#8 <<< k)) := by
  rw [show 0xFF#8 = BitVec.allOnes 8 from rfl, BitVec.allOnes_xor]
  rfl

/-- The bits of a mask may be cleared before they are set. -/
theorem and_not_or_self (v mask : Byte) : (v &&& ~~~mask) ||| mask = v ||| mask := by
  ext j hj
  cases hbit : mask[j] <;> simp [hbit]

/-- Writing a bit clears it and then puts the new value there. -/
theorem withBit_eq_clear_or (v : Byte) (k : Nat) (x : Bool) :
    withBit v k x = (v &&& (0xFF#8 ^^^ (1#8 <<< k))) ||| (if x then 1#8 <<< k else 0) := by
  rw [← withBit_false]
  cases x with
  | false => exact BitVec.or_zero.symm
  | true => exact (and_not_or_self v _).symm

end Sys2Proof.Machine

/-! SET1, CLR1, TSET1, TCLR1, MOV1 m.b and NOT1 (R368 to R371, R378, R379). -/

namespace Sys2Proof.Machine

open Sys2Proof Sys2Proof.Claims

theorem flagsAre_nil {s t : State} (h : t.cpu.psw = s.cpu.psw) : FlagsAre [] s t :=
  flagsAre_of_psw h (by simp) (FlagsKeptBut.refl _ _)

/-- A rewrite is an operation on a memory byte that puts PSW back as it was. -/
theorem rewrite_eq_unMem (g : Byte → Byte) (m : Mode) (n : Nat) (s : State) :
    rewrite g m n s = unMem (fun psw v => (g v, psw)) m n s := by
  have hcpu := (m.readState s).memWrite_cpu (m.addr s) (g (m.value s))
  unfold unMem
  dsimp only
  rw [← hcpu, State.setPsw_self]
  rfl

theorem rewrites_of_rewrite {f : Bool → Byte → Byte} {g : Byte → Byte} {r : DestRow} {s : State}
    (hg : ∀ v, g v = f (s.flag .c) v) (hwf : r.instr.WellFormed) (henc : encode r.instr = r.bytes)
    (hexec : exec r.instr s = rewrite g r.dst r.cycles s) : Rewrites f (fun _ _ => []) r s :=
  rewrites_of_exec (fun v => ⟨hg v, fun _ => flagsAre_nil⟩) hwf henc (hexec.trans (rewrite_eq_unMem g _ _ _))

/-- TSET1 sees A as it was before the read, and its flags may be written after the store (R370). -/
theorem execTset1Abs_eq_unMem (a : Word) (s : State) :
    execTset1Abs a s = unMem (fun psw v => (v ||| s.cpu.a, testFlags psw s.cpu.a v)) (.abs a) 6 s := by
  simp only [execTset1Abs, State.memWrite_setPsw, Mode.readState_cpu_a]
  rfl

/-- TCLR1 likewise (R371). -/
theorem execTclr1Abs_eq_unMem (a : Word) (s : State) :
    execTclr1Abs a s = unMem (fun psw v => (v &&& (s.cpu.a ^^^ 0xFF#8), testFlags psw s.cpu.a v)) (.abs a) 6 s := by
  simp only [execTclr1Abs, State.memWrite_setPsw, Mode.readState_cpu_a]
  rfl

/-- Settles O28: every form but TSET1 and TCLR1 is a rewrite of the byte read; a bit that is written is cleared first, and
then set where its new value is 1. -/
theorem bitRewrites : Obligations.BitRewrites := by
  unfold Obligations.BitRewrites
  intro d a s
  refine ⟨fun r hr => ?_,
    rewrites_of_exec (fun _ => ⟨rfl, fun _ => flagsAre_nz⟩) rfl rfl (execTset1Abs_eq_unMem a s),
    rewrites_of_exec (fun _ => ⟨rfl, fun _ => flagsAre_nz⟩) rfl rfl (execTclr1Abs_eq_unMem a s), ?_, ?_⟩
  · simp only [List.mem_cons, List.not_mem_nil, or_false] at hr
    rcases hr with rfl | rfl | rfl | rfl | rfl | rfl | rfl | rfl
    all_goals exact ⟨rewrites_of_rewrite (fun _ => rfl) rfl rfl rfl,
      rewrites_of_rewrite (fun v => withBit_false v _) rfl rfl rfl⟩
  · obtain ⟨hwf, henc⟩ := encodesTo_mbitOperand (mk := .mov1MbC) (fun _ _ => rfl) (fun _ _ => rfl) a
    exact rewrites_of_rewrite (fun v => withBit_eq_clear_or v _ _) hwf henc rfl
  · obtain ⟨hwf, henc⟩ := encodesTo_mbitOperand (mk := .not1Mb) (fun _ _ => rfl) (fun _ _ => rfl) a
    exact rewrites_of_rewrite (fun _ => rfl) hwf henc rfl

end Sys2Proof.Machine

/-! C from C and a bit of memory (R372 to R377). -/

namespace Sys2Proof.Machine

open Sys2Proof Sys2Proof.Claims

theorem flagsAre_setFlag {s t : State} {f : Flag} {x : Bool} (h : t.cpu.psw = setFlag s.cpu.psw f x) :
    FlagsAre [(f, x)] s t :=
  flagsAre_of_psw h (by simp) ((FlagsKeptBut.refl _ _).setFlag (by simp) x)

theorem quiet_putFlag {s u : State} (h : Quiet s u) (f : Flag) (x : Bool) : Quiet s (u.putFlag f x) :=
  quiet_trans h ⟨fun _ => rfl, rfl, rfl, rfl, rfl, rfl, rfl, rfl, rfl⟩

/-- The function sees C as it was before the read. -/
theorem carryBit_eq_putFlag (f : Bool → Bool → Bool) (m : Word) (b n : Nat) (s : State) : carryBit f m b n s =
    .next ((((Mode.abs m).readState s).putFlag .c (f (s.flag .c) (((Mode.abs m).value s).getLsbD b))).spend n) := by
  rw [State.flag, ← Mode.readState_cpu_psw s (.abs m)]
  rfl

theorem carryBit_of_exec (f : Bool → Bool → Bool) {i : Instr} {op : Byte} {m w : Word} {b n : Nat} {s : State}
    (henc : EncodesTo i .mbit op (loByte w) (hiByte w)) (hexec : exec i s = carryBit f m b n s) :
    decode [op, loByte w, hiByte w] = .ok (i, []) ∧ ∃ t, exec i s = .next t ∧
      t.cpu = { s.cpu with pc := s.cpu.pc + 2, psw := t.cpu.psw } ∧
      FlagsAre [(.c, f (s.flag .c) (((Mode.abs m).value s).getLsbD b))] s t ∧ Quiet s t ∧
      t.io = ((Mode.abs m).readState s).io ∧ t.cycles = n := by
  obtain ⟨hwf, hbytes⟩ := henc
  have hcpu : ((Mode.abs m).readState s).cpu = { s.cpu with pc := s.cpu.pc + 2 } := (Mode.abs m).readState_cpu s
  refine ⟨decode_of_encode hwf hbytes, _, hexec.trans (carryBit_eq_putFlag f m b n s), ?_, flagsAre_setFlag ?_,
    quiet_putFlag (quiet_readState s (.abs m)) .c _, rfl, rfl⟩
  · simp [hcpu, State.putFlag, State.setPsw]
  · simp [hcpu]

/-- Settles O29: each form is its function of C and the bit read. -/
theorem carryBits : Obligations.CarryBits := by
  unfold Obligations.CarryBits
  intro w s m b c x r hr
  simp only [List.mem_cons, List.not_mem_nil, or_false] at hr
  rcases hr with rfl | rfl | rfl | rfl | rfl | rfl
  · exact carryBit_of_exec (fun c x => c || x) (encodesTo_mbitOperand (fun _ _ => rfl) (fun _ _ => rfl) w) rfl
  · exact carryBit_of_exec (fun c x => c || !x) (encodesTo_mbitOperand (fun _ _ => rfl) (fun _ _ => rfl) w) rfl
  · exact carryBit_of_exec (fun c x => c && x) (encodesTo_mbitOperand (fun _ _ => rfl) (fun _ _ => rfl) w) rfl
  · exact carryBit_of_exec (fun c x => c && !x) (encodesTo_mbitOperand (fun _ _ => rfl) (fun _ _ => rfl) w) rfl
  · exact carryBit_of_exec (fun c x => c != x) (encodesTo_mbitOperand (fun _ _ => rfl) (fun _ _ => rfl) w) rfl
  · exact carryBit_of_exec (fun _ x => x) (encodesTo_mbitOperand (fun _ _ => rfl) (fun _ _ => rfl) w) rfl

end Sys2Proof.Machine

/-! The flag instructions and NOP (R380 to R387, R420). -/

namespace Sys2Proof.Machine

open Sys2Proof Sys2Proof.Claims

/-- CLRV clears V and H (R383). -/
theorem flagsAre_clrv {s t : State} (h : t.cpu.psw = setFlag (setFlag s.cpu.psw .v false) .h false) :
    FlagsAre [(.v, false), (.h, false)] s t :=
  flagsAre_of_psw h (by simp) (((FlagsKeptBut.refl _ _).setFlag (by decide) _).setFlag (by decide) _)

/-- Settles O30: CLRV writes two flags and NOP none; each of the others writes one flag. -/
theorem flagInstructions : Obligations.FlagInstructions := by
  unfold Obligations.FlagInstructions
  intro s r hr
  simp only [List.mem_cons, List.not_mem_nil, or_false] at hr
  rcases hr with rfl | rfl | rfl | rfl | rfl | rfl | rfl | rfl | rfl
  all_goals dsimp only
  all_goals refine ⟨rfl, _, rfl, rfl, ?_, quiet_refl s, rfl, rfl⟩
  · exact flagsAre_setFlag rfl
  · exact flagsAre_setFlag rfl
  · exact flagsAre_setFlag rfl
  · exact flagsAre_clrv rfl
  · exact flagsAre_setFlag rfl
  · exact flagsAre_setFlag rfl
  · exact flagsAre_setFlag rfl
  · exact flagsAre_setFlag rfl
  · exact flagsAre_nil rfl

end Sys2Proof.Machine

/-! Branches on a memory byte (R398 to R401). -/

namespace Sys2Proof.Machine

open Sys2Proof Sys2Proof.Claims

theorem byte_bne_eq_decide (x y : Byte) : (x != y) = decide (x ≠ y) := by
  rw [bne, Bool.beq_eq_decide_eq, ← decide_not]

/-- A branch whose fetches advanced PC by `k` (R13). -/
theorem branchIf_cpu_of_fetched {s u : State} {k : Word} (h : u.cpu = { s.cpu with pc := s.cpu.pc + k }) (taken : Bool)
    (rel : Byte) (n : Nat) : (u.branchIf taken rel n).cpu = { s.cpu with
      pc := if taken then BitVec.ofInt 16 ((s.cpu.pc.toNat : Int) + k.toNat + rel.toInt) else s.cpu.pc + k } := by
  rw [State.branchIf_cpu, h, add_sext16]

/-- The registers after the displacement that follows a one-byte operand was fetched. -/
theorem passOperand_cpu_of_read {s u : State} {m : Mode} (hm : modeSize m = 1) (h : u.cpu = (m.readState s).cpu) :
    u.passOperand.cpu = { s.cpu with pc := s.cpu.pc + 2 } := by
  rw [State.passOperand_cpu, h, m.readState_cpu, hm, add_assoc]
  rfl

/-- What a branch on a memory byte does once the byte is read and the displacement fetched (R398 to R401). -/
theorem memoryBranch_of_exec {i : Instr} {b d rel : Byte} {m : Mode} {taken : Bool} {n : Nat} {s : State}
    (hwf : i.WellFormed) (henc : encode i = [b, d, rel]) (hm : modeSize m = 1)
    (hexec : exec i s = .next ((m.readState s).passOperand.branchIf taken rel n)) :
    decode [b, d, rel] = .ok (i, []) ∧ ∃ t, exec i s = .next t ∧
      t.cpu = { s.cpu with
        pc := if taken then BitVec.ofInt 16 ((s.cpu.pc.toNat : Int) + 2 + rel.toInt) else s.cpu.pc + 2 } ∧
      Quiet s t ∧ t.io = (m.readState s).passOperand.io ∧ t.cycles = if taken then n + 2 else n :=
  ⟨decode_of_encode hwf henc, _, hexec, branchIf_cpu_of_fetched (passOperand_cpu_of_read hm rfl) taken rel n,
    quiet_branchIf (quiet_trans (quiet_readState s m) (quiet_passOperand _)) taken rel n, State.branchIf_io ..,
    State.branchIf_cycles ..⟩

/-- CBNE compares with A as it was before the fetches (R400, R401). -/
theorem branchByte_cbne (m : Mode) (rel : Byte) (n : Nat) (s : State) :
    branchByte (fun c v => c.a != v) m rel n s =
      .next ((m.readState s).passOperand.branchIf (decide (s.cpu.a ≠ m.value s)) rel n) := by
  simp only [branchByte, State.passOperand_cpu_a, Mode.readState_cpu_a, byte_bne_eq_decide]

/-- Settles O32: BBS and BBC test a bit of the byte read, CBNE compares it with A. -/
theorem memoryBranches : Obligations.MemoryBranches := by
  unfold Obligations.MemoryBranches
  intro d rel s v vx r hr
  simp only [List.mem_cons, List.not_mem_nil, or_false] at hr
  rcases hr with rfl | rfl | rfl | rfl | rfl | rfl | rfl | rfl | rfl | rfl | rfl | rfl | rfl | rfl | rfl | rfl | rfl | rfl
  all_goals refine memoryBranch_of_exec rfl rfl rfl ?_
  -- BBS and BBC of the eight bits, then CBNE in its two forms.
  iterate 16 rfl
  · exact branchByte_cbne ..
  · exact branchByte_cbne ..

end Sys2Proof.Machine

/-! DBNZ (R402, R403). -/

namespace Sys2Proof.Machine

open Sys2Proof Sys2Proof.Claims

/-- A byte counts down to zero from one. -/
theorem sub_one_bne_zero (y : Byte) : (y - 1 != 0) = decide (y ≠ 1) := by
  rw [byte_bne_eq_decide, decide_eq_decide, not_iff_not, sub_eq_zero]

/-- R403. -/
theorem exec_dbnzY (rel : Byte) (s : State) : exec (.dbnzY rel) s =
    .next ((s.passOperand.setY (s.cpu.y - 1)).branchIf (decide (s.cpu.y ≠ 1)) rel 4) := by
  rw [← sub_one_bne_zero]
  rfl

/-- R402, with the displacement of the late fetch (log entry 4). -/
theorem exec_dbnzDp (d rel : Byte) (s : State) :
    let v := (Mode.dp d).value s - 1
    let u := ((Mode.dp d).readState s).memWrite (s.dpAddr d) v
    exec (.dbnzDp d rel) s = .next (u.passOperand.branchIf (decide (v ≠ 0))
      (if u.peek (s.cpu.pc + 1) = s.peek (s.cpu.pc + 1) then rel else u.peek (s.cpu.pc + 1)) 5) := by
  intro v u
  have hpc : u.cpu.pc = s.cpu.pc + 1 := by simp only [u, State.memWrite_cpu, Mode.readState_cpu, modeSize]
  rw [← hpc, ← byte_bne_eq_decide]
  simp only [u, v, ← Mode.addr_dp]
  rfl

theorem State.branchIf_eq_cpu_cycles (u : State) (taken : Bool) (rel : Byte) (n : Nat) : u.branchIf taken rel n =
    { u with cpu := (u.branchIf taken rel n).cpu, cycles := if taken then n + 2 else n } := by
  cases taken <;> rfl

/-- Settles O33: either form is a branch once the count is written. -/
theorem dbnz : Obligations.Dbnz := by
  unfold Obligations.Dbnz
  intro d rel s
  refine ⟨⟨decode_of_encode rfl rfl, _, exec_dbnzY rel s, ?_, quiet_branchIf ?_ _ rel 4, State.branchIf_io .., ?_⟩,
    decode_of_encode rfl rfl, _, exec_dbnzDp d rel s, ?_⟩
  · have hcpu : (s.passOperand.setY (s.cpu.y - 1)).cpu = { (s.setY (s.cpu.y - 1)).cpu with pc := s.cpu.pc + 1 } := by
      rw [State.setY, State.passOperand_cpu]
      rfl
    simpa using branchIf_cpu_of_fetched (s := s.setY (s.cpu.y - 1)) hcpu (decide (s.cpu.y ≠ 1)) rel 4
  · exact quiet_passOperand s
  · simp
  · intro v u used
    have hcpu : u.passOperand.cpu = { s.cpu with pc := s.cpu.pc + 2 } :=
      passOperand_cpu_of_read rfl (((Mode.dp d).readState s).memWrite_cpu (s.dpAddr d) v)
    obtain ⟨hsame, hother, -⟩ := stored_memWrite (quiet_readState s (.dp d)) (s.dpAddr d) v
    refine ⟨?_, ?_, ?_, ?_⟩
    · have hbranch := branchIf_cpu_of_fetched hcpu (decide (v ≠ 0)) used 5
      simp only [decide_eq_true_eq] at hbranch
      exact hbranch
    · rw [State.branchIf_ram, State.passOperand_ram]
      exact hsame
    · rw [State.branchIf_ram, State.passOperand_ram]
      exact hother
    · simpa only [decide_eq_true_eq] using u.passOperand.branchIf_eq_cpu_cycles (decide (v ≠ 0)) used 5

end Sys2Proof.Machine

/-! The stack and the vectors: what a push changes, and a vector word read after it (R11, R105, R408, R409). -/

namespace Sys2Proof.Machine

open Sys2Proof

theorem sub_one_sub_one (v : Byte) : v - 1 - 1 = v - 2 := by bv_omega

/-- A push changes the CPU's registers and RAM only. -/
theorem State.push8_eq_cpu_ram (s : State) (v : Byte) :
    s.push8 v = { s with cpu := (s.push8 v).cpu, ram := (s.push8 v).ram } := by
  rw [State.push8_eq]
  rfl

theorem State.push16_eq_cpu_ram (s : State) (w : Word) :
    s.push16 w = { s with cpu := (s.push16 w).cpu, ram := (s.push16 w).ram } := by
  rw [State.push16, State.push8_eq, State.push8_eq]
  rfl

/-- A push keeps every byte but the one at the stack pointer. -/
theorem State.push8_read_ne (s : State) (v : Byte) {b : Nat} (h : b ≠ (stackAddr s.cpu.sp).toNat) :
    (s.push8 v).ram.read b = s.ram.read b := by
  rw [State.push8_eq]
  exact Memory.read_write_ne _ _ h

theorem State.push16_read_ne (s : State) (w : Word) {b : Nat} (h : b ≠ (stackAddr s.cpu.sp).toNat)
    (h' : b ≠ (stackAddr (s.cpu.sp - 1)).toNat) : (s.push16 w).ram.read b = s.ram.read b := by
  rw [State.push16, State.push8_read_ne _ _ (by rwa [State.push8_cpu]), State.push8_read_ne _ _ h]

/-- Of what a bus read sees, `t` differs from `s` in bytes of the stack page and below it only. -/
def SameAboveStack (s t : State) : Prop := t.io = s.io ∧ ∀ b : Nat, 0x200 ≤ b → t.ram.read b = s.ram.read b

theorem SameAboveStack.push8 {s t : State} (h : SameAboveStack s t) (v : Byte) : SameAboveStack s (t.push8 v) := by
  obtain ⟨hio, hram⟩ := h
  refine ⟨by rw [State.push8_eq]; exact hio, fun b hb => ?_⟩
  have hsp := t.cpu.sp.isLt
  rw [State.push8_read_ne t v (by rw [toNat_stackAddr]; omega), hram b hb]

theorem SameAboveStack.push16 {s t : State} (h : SameAboveStack s t) (w : Word) : SameAboveStack s (t.push16 w) :=
  (h.push8 _).push8 _

theorem SameAboveStack.refl (s : State) : SameAboveStack s s := ⟨rfl, fun _ _ => rfl⟩

theorem SameAboveStack.peek {s t : State} (h : SameAboveStack s t) {a : Word} (ha : 0x200 ≤ a.toNat) :
    t.peek a = s.peek a := by
  obtain ⟨hio, hram⟩ := h
  have hplain : ioReg a = none := ioReg_outside (.inr (by omega))
  rw [State.peek_plain t hplain, State.peek_plain s hplain, hram _ ha, State.romMapped, State.romMapped, hio]

/-- A word read above the stack page sees the same bytes, and has no side effect. -/
theorem SameAboveStack.word {s t : State} (h : SameAboveStack s t) {a : Word} (ha : 0x200 ≤ a.toNat)
    (ha' : 0x200 ≤ (a + 1).toNat) : t.touchWord a = t ∧ t.word a = s.word a := by
  have htouch (u : State) {b : Word} (hb : 0x200 ≤ b.toNat) : u.touch b = u :=
    u.touch_plain (ioReg_outside (.inr (by omega)))
  refine ⟨?_, ?_⟩
  · rw [State.touchWord, htouch _ ha, htouch _ ha']
  · rw [State.word, State.word, htouch _ ha, htouch _ ha, h.peek ha, h.peek ha']

/-- The vectors lie at 0xFFC0 to 0xFFDF (R408). -/
theorem toNat_vectorAddr {n : Nat} (hn : n < 16) :
    (vectorAddr n).toNat = 0xFFDE - 2 * n ∧ (vectorAddr n + 1).toNat = 0xFFDF - 2 * n := by
  unfold vectorAddr
  refine ⟨?_, ?_⟩ <;> bv_omega

/-- A push does not change the vectors (R408). -/
theorem SameAboveStack.vector {s t : State} (h : SameAboveStack s t) {n : Nat} (hn : n < 16) :
    t.touchWord (vectorAddr n) = t ∧ t.word (vectorAddr n) = s.word (vectorAddr n) := by
  obtain ⟨hlow, hhigh⟩ := toNat_vectorAddr hn
  exact h.word (by omega) (by omega)

end Sys2Proof.Machine

/-! Jumps and calls (R404 to R408). -/

namespace Sys2Proof.Machine

open Sys2Proof Sys2Proof.Claims

/-- What a jump does after its operand bytes were fetched and its target was read (R404, R405). -/
theorem jump_of_exec {i : Instr} {s u : State} {target : Word} {n : Nat} (hcpu : u.cpu = { s.cpu with pc := u.cpu.pc })
    (hquiet : Quiet s u) (hexec : exec i s = .next ((u.setPc target).spend n)) : ∃ t, exec i s = .next t ∧
      t.cpu = { s.cpu with pc := target } ∧ Quiet s t ∧ t.io = u.io ∧ t.cycles = n := by
  refine ⟨_, hexec, ?_, quiet_trans hquiet ⟨fun _ => rfl, rfl, rfl, rfl, rfl, rfl, rfl, rfl, rfl⟩, rfl, rfl⟩
  rw [State.spend_cpu, State.setPc, hcpu]

/-- What a call does after its operand bytes were fetched (R406 to R408). -/
theorem call_of_exec {i : Instr} {s u : State} {target : Word} {n : Nat} (hcpu : u.cpu = { s.cpu with pc := u.cpu.pc })
    (hram : u.ram = s.ram) (hexec : exec i s = .next ((u.call target).spend n)) : ∃ t, exec i s = .next t ∧
      t.cpu = { s.cpu with sp := s.cpu.sp - 2, pc := target } ∧
      t.ram.read (stackAddr s.cpu.sp).toNat = hiByte u.cpu.pc ∧
      t.ram.read (stackAddr (s.cpu.sp - 1)).toNat = loByte u.cpu.pc ∧
      (∀ b : Nat, b ≠ (stackAddr s.cpu.sp).toNat → b ≠ (stackAddr (s.cpu.sp - 1)).toNat → t.ram.read b = s.ram.read b) ∧
      t = { u with cpu := t.cpu, ram := t.ram, cycles := n } := by
  have hsp : u.cpu.sp = s.cpu.sp := by rw [hcpu]
  refine ⟨_, hexec, ?_, ?_, ?_, fun b hb hb' => ?_, ?_⟩
  · show ((u.push16 u.cpu.pc).setPc target).cpu = _
    rw [State.setPc, State.push16_cpu, sub_one_sub_one, hcpu]
  · rw [← hsp]
    exact u.read_push16_high _
  · rw [← hsp]
    exact u.read_push16_low _
  · rw [← hsp] at hb hb'
    rw [← hram]
    exact u.push16_read_ne _ hb hb'
  · exact congrArg (fun v : State => (v.setPc target).spend n) (u.push16_eq_cpu_ram u.cpu.pc)

/-- A call through a vector is a call of the vector's word before the push (R408). -/
theorem State.callVector_eq_call (s : State) {n : Nat} (hn : n < 16) :
    s.callVector (vectorAddr n) = s.call (s.word (vectorAddr n)) := by
  obtain ⟨htouch, hword⟩ := ((SameAboveStack.refl s).push16 s.cpu.pc).vector hn
  simp only [State.callVector, htouch, hword, State.call]

theorem quiet_touchWord (s : State) (a : Word) : Quiet s (s.touchWord a) :=
  quiet_trans (quiet_touch s _) (quiet_touch _ _)

/-- R405: X is not changed by the fetches. -/
theorem exec_jmpIndAbsX (a : Word) (s : State) :
    let p := s.passOperand.passOperand
    let q := a + zext16 s.cpu.x
    exec (.jmpIndAbsX a) s = .next (((p.touchWord q).setPc (p.word q)).spend 6) := by
  intro p q
  have hx : p.cpu.x = s.cpu.x := by simp [p]
  simp only [q, ← hx]
  rfl

/-- The TCALLs by number (R408). -/
def tcalls : List Instr :=
  [.tcall0, .tcall1, .tcall2, .tcall3, .tcall4, .tcall5, .tcall6, .tcall7, .tcall8, .tcall9, .tcall10, .tcall11,
    .tcall12, .tcall13, .tcall14, .tcall15]

theorem encode_tcalls {n : Nat} (hn : n < tcalls.length) :
    tcalls[n].WellFormed ∧ encode tcalls[n] = [BitVec.ofNat 8 (n * 16 + 1)] := by
  have h16 : n < 16 := hn
  interval_cases n <;> exact ⟨rfl, rfl⟩

theorem exec_tcalls {n : Nat} (hn : n < tcalls.length) (s : State) :
    exec tcalls[n] s = .next ((s.call (s.word (BitVec.ofNat 16 (0xFFDE - 2 * n)))).spend 8) := by
  have h16 : n < 16 := hn
  have hvector : BitVec.ofNat 16 (0xFFDE - 2 * n) = vectorAddr n := by
    rw [← (toNat_vectorAddr h16).1, BitVec.ofNat_toNat, BitVec.setWidth_eq]
  rw [hvector, ← s.callVector_eq_call h16]
  interval_cases n <;> rfl

/-- Settles O34: CALL, PCALL and TCALL are calls of their targets. -/
theorem jumpsAndCalls : Obligations.JumpsAndCalls := by
  unfold Obligations.JumpsAndCalls
  intro a u s p
  have hp : p.cpu = { s.cpu with pc := s.cpu.pc + 2 } := (Mode.abs a).located_cpu s
  have hquiet : Quiet s p := quiet_passed s (.abs a)
  have hread (w : Word) : (p.touchWord w).cpu = { s.cpu with pc := (p.touchWord w).cpu.pc } := by
    rw [State.touchWord_cpu, hp]
  refine ⟨⟨decode_of_encode rfl rfl, jump_of_exec (by rw [hp]) hquiet rfl⟩, ⟨decode_of_encode rfl rfl,
    jump_of_exec (hread _) (quiet_trans hquiet (quiet_touchWord p _)) (exec_jmpIndAbsX a s)⟩, fun r hr => ?_⟩
  rcases List.mem_append.1 hr with hr | hr
  · simp only [List.mem_cons, List.not_mem_nil, or_false] at hr
    rcases hr with rfl | rfl
    · exact ⟨fun _ hbytes => Option.some.inj hbytes ▸ decode_of_encode rfl rfl,
        call_of_exec (by rw [hp]) (by simp [p]) rfl⟩
    · exact ⟨fun _ hbytes => Option.some.inj hbytes ▸ decode_of_encode rfl rfl,
        call_of_exec (by rw [State.passOperand_cpu]) (by simp) rfl⟩
  · obtain ⟨n, hn, rfl⟩ := List.mem_mapIdx.1 hr
    obtain ⟨hwf, henc⟩ := encode_tcalls hn
    exact ⟨fun _ hbytes => Option.some.inj hbytes ▸ decode_of_encode hwf henc, call_of_exec rfl rfl (exec_tcalls hn s)⟩

end Sys2Proof.Machine

/-! BRK, RET and RETI (R409 to R411). -/

namespace Sys2Proof.Machine

open Sys2Proof Sys2Proof.Claims

/-- The state in which BRK loads PC: PC and PSW pushed, B set, I cleared (R409). -/
def State.breakPushed (s : State) : State :=
  (((s.push16 s.cpu.pc).push8 s.cpu.psw).putFlag .b true).putFlag .i false

theorem State.breakPushed_cpu (s : State) : s.breakPushed.cpu =
    { s.cpu with sp := s.cpu.sp - 3, psw := setFlag (setFlag s.cpu.psw .b true) .i false } := by
  have hsp : s.cpu.sp - 1 - 1 - 1 = s.cpu.sp - 3 := by bv_omega
  simp only [State.breakPushed, State.putFlag, State.setPsw, State.push8_cpu, State.push16_cpu, hsp]

theorem State.breakPushed_eq_cpu_ram (s : State) :
    s.breakPushed = { s with cpu := s.breakPushed.cpu, ram := s.breakPushed.ram } := by
  rw [State.breakPushed, State.push16, State.push8_eq, State.push8_eq, State.push8_eq]
  rfl

theorem State.breakPushed_read_ne (s : State) {b : Nat} (h : b ≠ (stackAddr s.cpu.sp).toNat)
    (h' : b ≠ (stackAddr (s.cpu.sp - 1)).toNat) (h'' : b ≠ (stackAddr (s.cpu.sp - 2)).toNat) :
    s.breakPushed.ram.read b = s.ram.read b := by
  have htop : b ≠ (stackAddr (s.push16 s.cpu.pc).cpu.sp).toNat := by rwa [State.push16_cpu, sub_one_sub_one]
  exact (State.push8_read_ne _ _ htop).trans (s.push16_read_ne _ h h')

/-- BRK's vector is the word at 0xFFDE before the pushes (R409). -/
theorem State.takeBreak_eq (s : State) : s.takeBreak = s.breakPushed.setPc (s.word 0xFFDE) := by
  have hsame : SameAboveStack s s.breakPushed := ((SameAboveStack.refl s).push16 s.cpu.pc).push8 s.cpu.psw
  obtain ⟨htouch, hword⟩ := hsame.vector (n := 0) (by decide)
  have hbreak : s.takeBreak = (s.breakPushed.touchWord (vectorAddr 0)).setPc (s.breakPushed.word (vectorAddr 0)) := by
    simp only [State.takeBreak, State.push16_cpu]
    rfl
  rw [hbreak, htouch, hword]
  rfl

theorem flagsAre_break {s t : State} (h : t.cpu.psw = setFlag (setFlag s.cpu.psw .b true) .i false) :
    FlagsAre [(.b, true), (.i, false)] s t :=
  flagsAre_of_psw h (by simp) (((FlagsKeptBut.refl _ _).setFlag (by decide) _).setFlag (by decide) _)

/-- Settles O35: BRK's bytes lie where RETI finds them; below them, and in the other registers, nothing changes. -/
theorem breakAndReturns : Obligations.BreakAndReturns := by
  unfold Obligations.BreakAndReturns
  intro s
  refine ⟨⟨decode_of_encode rfl rfl, s.takeBreak.spend 8, rfl, ?_⟩, ⟨decode_of_encode rfl rfl, ?_⟩,
    decode_of_encode rfl rfl, ?_⟩
  · obtain ⟨hpsw, hlow, hhigh⟩ := s.read_takeBreak
    refine ⟨?_, flagsAre_break s.takeBreak_cpu_psw, hhigh, hlow, ?_, fun b hb hb' hb'' => ?_, ?_⟩
    · rw [State.spend_cpu, State.takeBreak_eq, State.setPc, State.breakPushed_cpu]
    · rwa [sub_one_sub_one] at hpsw
    · rw [State.spend_ram, State.takeBreak_eq]
      exact s.breakPushed_read_ne hb hb' hb''
    · rw [State.takeBreak_eq]
      exact congrArg (fun u : State => (u.setPc (s.word 0xFFDE)).spend 8) s.breakPushed_eq_cpu_ram
  · simp only [exec_ret, add_assoc]
    rfl
  · simp only [exec_reti, add_assoc]
    rfl

end Sys2Proof.Machine

/-! PUSH and POP (R412 to R419). -/

namespace Sys2Proof.Machine

open Sys2Proof Sys2Proof.Claims

/-- A push of a register (R412 to R415). -/
theorem push_of_exec {i : Instr} {op : Byte} {reg : Cpu → Byte} {s : State} (hwf : i.WellFormed) (henc : encode i = [op])
    (hexec : exec i s = push reg s) : decode [op] = .ok (i, []) ∧ ∃ t, exec i s = .next t ∧
      t.ram.read (stackAddr s.cpu.sp).toNat = reg s.cpu ∧
      (∀ b : Nat, b ≠ (stackAddr s.cpu.sp).toNat → t.ram.read b = s.ram.read b) ∧
      t = { s with cpu := { s.cpu with sp := s.cpu.sp - 1 }, ram := t.ram, cycles := 4 } := by
  refine ⟨decode_of_encode hwf henc, _, hexec, s.read_push8_same _, fun b hb => s.push8_read_ne _ hb, ?_⟩
  rw [State.push8_eq]
  rfl

/-- A pop into the register that `put` writes (R416 to R419). -/
theorem pop_of_exec {i : Instr} {op : Byte} {put : State → Byte → State} {s : State} (hwf : i.WellFormed)
    (henc : encode i = [op]) (hexec : exec i s = .next ((put s.drop8 s.top8).spend 4)) :
    decode [op] = .ok (i, []) ∧ exec i s =
      .next ((put (s.setSp (s.cpu.sp + 1)) (s.ram.read (stackAddr (s.cpu.sp + 1)).toNat)).spend 4) := by
  rw [hexec, State.drop8_eq, State.top8_eq]
  exact ⟨decode_of_encode hwf henc, rfl⟩

/-- Settles O37: a push stores at the stack pointer, a pop reads above it. -/
theorem pushPop : Obligations.PushPop := by
  unfold Obligations.PushPop
  intro s
  refine ⟨fun r hr => ?_, fun r hr => ?_⟩
  · simp only [List.mem_cons, List.not_mem_nil, or_false] at hr
    rcases hr with rfl | rfl | rfl | rfl
    · exact push_of_exec (reg := Cpu.a) rfl rfl rfl
    · exact push_of_exec (reg := Cpu.x) rfl rfl rfl
    · exact push_of_exec (reg := Cpu.y) rfl rfl rfl
    · exact push_of_exec (reg := Cpu.psw) rfl rfl rfl
  · simp only [List.mem_cons, List.not_mem_nil, or_false] at hr
    rcases hr with rfl | rfl | rfl | rfl
    · exact pop_of_exec (put := State.setA) rfl rfl rfl
    · exact pop_of_exec (put := State.setX) rfl rfl rfl
    · exact pop_of_exec (put := State.setY) rfl rfl rfl
    · exact pop_of_exec (put := State.setPsw) rfl rfl rfl

end Sys2Proof.Machine

/-! SLEEP and STOP (R421, R422, R602, R655). -/

namespace Sys2Proof.Machine

open Sys2Proof

/-- In a faulted state no step is taken (R602; log entry 3). -/
theorem step_of_fault {s : State} {r : EmuFault} (h : s.fault = some r) : step s = .fault (.emulationFault r) := by
  rw [step, h]

/-- Settles O38: each is a halt, which sets the fault. -/
theorem sleepStop : Obligations.SleepStop := by
  unfold Obligations.SleepStop
  intro s
  refine ⟨⟨decode_of_encode rfl rfl, rfl⟩, ⟨decode_of_encode rfl rfl, rfl⟩, fun i t hi hexec => ?_⟩
  rcases hi with rfl | rfl
  all_goals
    obtain rfl := Host.Outcome.next.inj hexec
    exact ⟨_, step_of_fault rfl⟩

end Sys2Proof.Machine

/-! The cycles of an instruction, and the frame emitted while they pass (R14, R601, R610, R721). -/

namespace Sys2Proof.Machine

open Sys2Proof

/-- The range of the cycles an instruction records (R721). -/
def CyclesInRange (t : State) : Prop := 2 ≤ t.cycles ∧ t.cycles ≤ 12

theorem cyclesInRange_spend (s : State) {n : Nat} (h : 2 ≤ n) (h' : n ≤ 12) : CyclesInRange (s.spend n) := ⟨h, h'⟩

/-- A branch taken costs two cycles more (R720). -/
theorem cyclesInRange_branchIf (s : State) (taken : Bool) (rel : Byte) {n : Nat} (h : 2 ≤ n) (h' : n + 2 ≤ 12) :
    CyclesInRange (s.branchIf taken rel n) := by
  cases taken
  · exact ⟨h, show n ≤ 12 by omega⟩
  · exact ⟨Nat.le_add_left 2 n, h'⟩

theorem exec_cyclesInRange (i : Instr) (s : State) : ∃ t, exec i s = .next t ∧ CyclesInRange t := by
  cases i
  all_goals refine ⟨_, rfl, ?_⟩
  case bpl | bmi | bvc | bvs | bcc | bcs | bne | beq | cbneDp | cbneDpX | dbnzDp | dbnzY | bbsB0 | bbcB0 | bbsB1 |
      bbcB1 | bbsB2 | bbcB2 | bbsB3 | bbcB3 | bbsB4 | bbcB4 | bbsB5 | bbcB5 | bbsB6 | bbcB6 | bbsB7 | bbcB7 =>
    exact cyclesInRange_branchIf _ _ _ (by decide) (by decide)
  all_goals exact cyclesInRange_spend _ (by decide) (by decide)

/-- A frame stands in the state after n cycles if one stood there before, or a multiple of 32 was passed (R601, R610). -/
theorem State.runClock_frame (n : Nat) (s : State) :
    (State.runClock n s).frame.isSome = true ↔ s.frame.isSome = true ∨ s.clk / 32 < (s.clk + n) / 32 := by
  induction n generalizing s with
  | zero => simp [State.runClock]
  | succ n ih =>
    rw [State.runClock, ih, State.clockCycle_frame, State.clockCycle_clk]
    split
    · exact iff_of_true (.inl rfl) (.inr (by omega))
    · exact or_congr_right (by omega)

/-- What a step that answers a next state does to the clock: it counts the instruction's cycles, and a frame is emitted
exactly when a multiple of 32 is passed (R601, R610, R721). -/
theorem step_clk_frame {s t : State} (h : step s = .next t) : t.clk = s.clk + t.cycles ∧ CyclesInRange t ∧
    (t.frame.isSome = true ↔ s.clk / 32 < t.clk / 32) := by
  obtain ⟨i, u, hexec, rfl⟩ := step_cases h
  obtain ⟨u', hexec', hcycles⟩ := exec_cyclesInRange i s.fetched
  obtain rfl := Host.Outcome.next.inj (hexec.symm.trans hexec')
  have hframe := exec_instrFrame hexec
  have hclk : u.clk = s.clk := hframe.clk.trans (State.passOperand_clk s)
  have hnone : u.frame = none := hframe.frame
  refine ⟨?_, ?_, ?_⟩
  · rw [State.runClock_clk, State.runClock_cycles, hclk]
  · rwa [CyclesInRange, State.runClock_cycles]
  · rw [State.runClock_frame, State.runClock_clk, hnone, hclk]
    simp

/-- Settles O7: at most 12 cycles pass at most one multiple of 32. -/
theorem clockAndTicks : Obligations.ClockAndTicks := by
  unfold Obligations.ClockAndTicks
  intro s t h
  obtain ⟨hclk, ⟨hmin, hmax⟩, hframe⟩ := step_clk_frame h
  exact ⟨hclk, hmin, hmax, hframe.trans (by omega), by omega⟩

end Sys2Proof.Machine

/-! The rate counter (R520, R521). -/

namespace Sys2Proof.Machine

open Sys2Proof

/-- The counter counts down modulo 30720 (R520). -/
theorem nextRate_iterate_modEq {c : Nat} (hc : c < 30720) (j : Nat) : nextRate^[j] c + j ≡ c [MOD 30720] := by
  induction j generalizing c with
  | zero => rfl
  | succ j ih =>
    have hstep : nextRate c + 1 ≡ c [MOD 30720] := by
      unfold nextRate Nat.ModEq
      split <;> omega
    exact ((ih (nextRate_lt hc)).add_right 1).trans hstep

theorem nextRate_iterate_lt {c : Nat} (hc : c < 30720) (j : Nat) : nextRate^[j] c < 30720 :=
  Function.Iterate.rec (· < 30720) hc (fun _ => nextRate_lt) j

theorem rateEvent_zero (c : Nat) : rateEvent c 0 = false := rfl

/-- The table's periods for the rates 1 to 31 divide the counter's period (R521). -/
theorem ratePeriod_dvd : ∀ r : Fin 32, r ≠ 0 → ∀ h : r.val < rateTable.length, (rateTable[r.val]).1 ∣ 30720 := by
  decide

/-- A rate fires on the multiples of its period, moved by its offset (R521). -/
theorem rateEvent_iff (c : Nat) {r : Nat} (hr : r ≠ 0) (h : r < rateTable.length) :
    rateEvent c r = true ↔ (rateTable[r]).1 ∣ c + (rateTable[r]).2 := by
  rw [rateEvent, if_neg hr, List.getD_eq_getElem _ _ h, decide_eq_true_iff, Nat.dvd_iff_mod_eq_zero]

/-- After j steps a rate fires exactly when j is the counter moved by the offset, modulo the rate's period. -/
theorem rateEvent_iterate_iff {c : Nat} (hc : c < 30720) {r : Nat} (hr : r ≠ 0) (h : r < rateTable.length)
    (hdvd : (rateTable[r]).1 ∣ 30720) (j : Nat) :
    rateEvent (nextRate^[j] c) r = true ↔ j ≡ c + (rateTable[r]).2 [MOD (rateTable[r]).1] := by
  rw [rateEvent_iff _ hr h]
  have hj : nextRate^[j] c + (rateTable[r]).2 + j ≡ c + (rateTable[r]).2 [MOD (rateTable[r]).1] := by
    rw [Nat.add_right_comm]
    exact ((nextRate_iterate_modEq hc j).of_dvd hdvd).add_right _
  rw [← Nat.modEq_zero_iff_dvd]
  constructor
  · intro hfires
    have hshift := hfires.add_right j
    rw [Nat.zero_add] at hshift
    exact hshift.symm.trans hj
  · intro hmod
    refine Nat.ModEq.add_right_cancel' j ?_
    rw [Nat.zero_add]
    exact hj.trans hmod.symm

/-- Settles O47: the counter counts down, so a rate fires after the one number of steps below its period that brings the
counter with its offset to a multiple of the period. -/
theorem ratePeriods : Obligations.RatePeriods := by
  unfold Obligations.RatePeriods
  intro c r
  refine ⟨?_, rateEvent_zero _, fun hr h => ?_⟩
  · have hmod : nextRate^[30720] c.val ≡ c.val [MOD 30720] :=
      Nat.add_modulus_modEq_iff.1 (nextRate_iterate_modEq c.isLt 30720)
    exact hmod.eq_of_lt_of_lt (nextRate_iterate_lt c.isLt _) c.isLt
  · have hdvd := ratePeriod_dvd r hr h
    have hpos := Nat.pos_of_dvd_of_pos hdvd (by decide)
    have hfires := rateEvent_iterate_iff c.isLt (Fin.val_ne_zero_iff.2 hr) h hdvd
    refine ⟨?_, (c.val + rateTable[r.val].2) % rateTable[r.val].1, ⟨Nat.mod_lt _ hpos, ?_⟩, fun j ⟨hj, hfire⟩ => ?_⟩
    · have hnow := hfires 0
      rw [Function.iterate_zero_apply] at hnow
      rw [Bool.eq_iff_iff, hfires, hnow]
      exact ⟨Nat.modulus_modEq_zero.symm.trans, Nat.modulus_modEq_zero.trans⟩
    · exact (hfires _).2 (Nat.mod_modEq _ _)
    · exact (Nat.mod_eq_of_lt hj).symm.trans ((hfires j).1 hfire)

end Sys2Proof.Machine

/-! The envelope (R522 to R530). -/

namespace Sys2Proof.Machine

open Sys2Proof

/-- What one envelope step may do to a voice: the level stays in its range, and the mode changes by the rows of the table
only (R522, R527). -/
structure EnvelopeMove (adsr1 adsr2 : Byte) (x y : Voice) : Prop where
  frame : y = { x with mode := y.mode, level := y.level }
  level : x.level ≤ 0x7FF → y.level ≤ 0x7FF
  mode : y.mode = x.mode ∨
    (x.mode = .attack ∧ y.mode = .decay ∧ adsr1.getLsbD 7 = true ∧ 0x7E0 ≤ y.level) ∨
    (x.mode = .decay ∧ y.mode = .sustain ∧ adsr1.getLsbD 7 = true ∧ y.level / 256 = adsr2.toNat / 32) ∨
    (x.mode = .release ∧ y.mode = .off ∧ y.level = 0)

namespace EnvelopeMove

variable (adsr1 adsr2 : Byte) (x : Voice)

theorem refl : EnvelopeMove adsr1 adsr2 x x := ⟨rfl, id, .inl rfl⟩

theorem withLevel {l : Nat} (hl : l ≤ 0x7FF) : EnvelopeMove adsr1 adsr2 x { x with level := l } :=
  ⟨rfl, fun _ => hl, .inl rfl⟩

theorem gainStep (counter : Nat) (gain : Byte) : EnvelopeMove adsr1 adsr2 x (x.gainStep counter gain) := by
  unfold Voice.gainStep
  split
  · split
    · exact withLevel _ _ _ (clampLevel_le _)
    · exact refl ..
  · exact withLevel _ _ _ (by omega)

theorem sustainStep (counter : Nat) : EnvelopeMove adsr1 adsr2 x (x.sustainStep counter adsr2) := by
  unfold Voice.sustainStep
  split
  · exact withLevel _ _ _ (clampLevel_le _)
  · exact refl ..

variable {adsr1 x}

theorem attacked {l : Nat} (hl : l ≤ 0x7FF) (hmode : x.mode = .attack) (hadsr : adsr1.getLsbD 7 = true) :
    EnvelopeMove adsr1 adsr2 x { x with level := l, mode := if l ≥ 0x7E0 then .decay else .attack } := by
  split
  · next htop => exact ⟨rfl, fun _ => hl, .inr (.inl ⟨hmode, rfl, hadsr, htop⟩)⟩
  · exact ⟨rfl, fun _ => hl, .inl hmode.symm⟩

theorem decayed {l : Nat} (hl : l ≤ 0x7FF) (hmode : x.mode = .decay) (hadsr : adsr1.getLsbD 7 = true) :
    EnvelopeMove adsr1 adsr2 x
      { x with level := l, mode := if l / 256 = adsr2.toNat / 32 then .sustain else .decay } := by
  split
  · next hsustain => exact ⟨rfl, fun _ => hl, .inr (.inr (.inl ⟨hmode, rfl, hadsr, hsustain⟩))⟩
  · exact ⟨rfl, fun _ => hl, .inl hmode.symm⟩

theorem attackStep (counter : Nat) (hmode : x.mode = .attack) (hadsr : adsr1.getLsbD 7 = true) :
    EnvelopeMove adsr1 adsr2 x (x.attackStep counter adsr1) := by
  unfold Voice.attackStep
  extract_lets rate level
  split
  · exact attacked _ (clampLevel_le _) hmode hadsr
  · exact refl ..

theorem decayStep (counter : Nat) (hmode : x.mode = .decay) (hadsr : adsr1.getLsbD 7 = true) :
    EnvelopeMove adsr1 adsr2 x (x.decayStep counter adsr1 adsr2) := by
  unfold Voice.decayStep
  extract_lets rate level
  split
  · exact decayed _ (clampLevel_le _) hmode hadsr
  · exact refl ..

theorem releaseStep (hmode : x.mode = .release) : EnvelopeMove adsr1 adsr2 x x.releaseStep := by
  unfold Voice.releaseStep
  dsimp only
  split
  · exact ⟨rfl, fun _ => Nat.zero_le _, .inr (.inr (.inr ⟨hmode, rfl, rfl⟩))⟩
  · exact withLevel _ _ _ (clampLevel_le _)

variable (adsr1 x)

theorem envStep (counter : Nat) (gain : Byte) :
    EnvelopeMove adsr1 adsr2 x (x.envStep counter adsr1 adsr2 gain) := by
  unfold Voice.envStep
  split
  case isFalse => exact refl ..
  split
  case h_1 => exact refl ..
  case h_2 hmode => exact releaseStep _ hmode
  -- The phases with an ADSR rule: without ADSR the level follows GAIN.
  case h_3 hmode =>
    split
    · next hadsr => exact attackStep _ _ hmode hadsr
    · exact gainStep ..
  case h_4 hmode =>
    split
    · next hadsr => exact decayStep _ _ hmode hadsr
    · exact gainStep ..
  case h_5 =>
    split
    · exact sustainStep ..
    · exact gainStep ..

end EnvelopeMove

/-- Settles O48: one step is a move of the table, and a sequence of steps keeps what every move keeps. -/
theorem envelope : Obligations.Envelope := by
  unfold Obligations.Envelope
  refine ⟨fun x inputs hx => ?_, fun x counter adsr1 adsr2 gain => ?_⟩
  · exact List.foldlRecOn (motive := fun y : Voice => y.level ≤ 0x7FF) _ _ hx
      fun y hy i _ => (EnvelopeMove.envStep _ _ y _ _).level hy
  · obtain ⟨hframe, -, hmode⟩ := EnvelopeMove.envStep adsr1 adsr2 x counter gain
    exact ⟨hframe, hmode⟩

end Sys2Proof.Machine

/-! The noise register (R542). -/

namespace Sys2Proof.Machine

open Sys2Proof

/-- The feedback's mask is clear below bit 14. -/
theorem noiseMask_low : ∀ k < 14, (0x4000#15).getLsbD k = false := by decide

theorem noiseStep_getLsbD_top (n : BitVec 15) : (noiseStep n).getLsbD 14 = (n.getLsbD 0 != n.getLsbD 1) := by
  simp [noiseStep, Bool.xor_comm]

theorem noiseStep_getLsbD_low (n : BitVec 15) {k : Nat} (hk : k < 14) :
    (noiseStep n).getLsbD k = n.getLsbD (k + 1) := by
  rw [noiseStep, BitVec.getLsbD_or, BitVec.getLsbD_and, noiseMask_low k hk, Bool.and_false, Bool.false_or,
    BitVec.getLsbD_ushiftRight, Nat.add_comm]

end Sys2Proof.Machine

namespace Sys2Proof.Claims

open Sys2Proof Sys2Proof.Machine

/-- Settles O49: the feedback goes into bit 14, and the mask keeps it out of the bits below. -/
theorem noiseStep : Obligations.NoiseStep := by
  unfold Obligations.NoiseStep
  exact fun n => ⟨noiseStep_getLsbD_top n, fun k hk => noiseStep_getLsbD_low n hk, noiseStep_ne_zero⟩

end Sys2Proof.Claims

/-! The BRR filters (R504, R506, R507). -/

namespace Sys2Proof.Machine

open Sys2Proof

theorem sext4_neg_iff (n : Fin 16) : sext4 n < 0 ↔ ¬ n.val < 8 := by
  unfold sext4
  omega

/-- A nibble scaled by a shift of at most 12 is a sample (R506). -/
theorem brrScale_bounds (shift : Fin 13) (n : Fin 16) :
    -32768 ≤ sext4 n * 2 ^ shift.val ∧ sext4 n * 2 ^ shift.val ≤ 32767 := by
  revert n shift
  decide

/-- Settles O50: the scaled nibble fits a sample for the shifts 0 to 12, and doubling leaves bit 0 clear. -/
theorem brrFilters : Obligations.BrrFilters := by
  unfold Obligations.BrrFilters
  refine ⟨fun shift n p1 p2 => ?_, fun shift n hshift => ?_, fun filter full p1 p2 hfilter => ?_⟩
  · obtain ⟨hmin, hmax⟩ := brrScale_bounds shift n
    rw [brrFilter, if_pos rfl, brrScale, if_pos (Nat.le_of_lt_succ shift.isLt), toInt_wrap16 hmin hmax]
    rfl
  · rw [brrScale, if_neg (by omega)]
    simp only [sext4_neg_iff, ite_not]
  · rw [brrFilter, if_neg hfilter]
    exact wrap16_even (by omega)

end Sys2Proof.Machine

/-! The polled key-off and key-on of a voice (R502, R510, R511). -/

namespace Sys2Proof.Machine

open Sys2Proof

theorem Voice.keyOn_keyOff (x : Voice) : x.keyOff.keyOn = x.keyOn := by
  unfold Voice.keyOff
  split <;> rfl

section
variable (d : Dsp) (v : Fin 8)

theorem Dsp.setVoice_setVoice (x y : Voice) : (d.setVoice v x).setVoice v y = d.setVoice v y := by
  simp [Dsp.setVoice]

theorem Dsp.endx_setVoice (x : Voice) : (d.setVoice v x).endx = d.endx := rfl

/-- The polling as a choice: key-on wins over key-off, for it overwrites the mode (R510, R511). -/
theorem Dsp.pollVoice_eq : d.pollVoice v =
    if d.everyOther then
      if d.konNow.getLsbD v then (d.setVoice v (d.voice v).keyOn).setReg 0x7C (withBit d.endx v false)
      else if d.koffNow.getLsbD v then d.setVoice v (d.voice v).keyOff
      else d
    else d := by
  unfold Dsp.pollVoice
  split
  case isFalse => rfl
  dsimp only
  split
  · simp only [Dsp.konNow_setVoice, Dsp.voice_setVoice, if_true, Dsp.setVoice_setVoice, Voice.keyOn_keyOff,
      Dsp.endx_setVoice]
  · rfl

theorem Dsp.pollVoice_voice_same : (d.pollVoice v).voice v =
    if d.everyOther then
      if d.konNow.getLsbD v then (d.voice v).keyOn else if d.koffNow.getLsbD v then (d.voice v).keyOff else d.voice v
    else d.voice v := by
  rw [Dsp.pollVoice_eq]
  simp only [apply_ite (Dsp.voice · v), Dsp.voice_setReg, Dsp.voice_setVoice, if_true]

theorem Dsp.pollVoice_voice_ne {w : Fin 8} (hw : w ≠ v) : (d.pollVoice v).voice w = d.voice w := by
  rw [Dsp.pollVoice_eq]
  simp only [apply_ite (Dsp.voice · w), Dsp.voice_setReg, Dsp.voice_setVoice, if_neg hw, ite_self]

theorem Dsp.pollVoice_reg (r : BitVec 7) : (d.pollVoice v).reg r =
    if d.everyOther = true ∧ d.konNow.getLsbD v = true ∧ r = 0x7C then withBit d.endx v false else d.reg r := by
  rw [Dsp.pollVoice_eq, ite_and, ite_and]
  simp only [apply_ite (Dsp.reg · r), Dsp.reg_setReg, Dsp.reg_setVoice, ite_self]

theorem Dsp.pollVoice_reg_ne {r : BitVec 7} (hr : r ≠ 0x7C) : (d.pollVoice v).reg r = d.reg r := by
  rw [Dsp.pollVoice_reg, if_neg fun h => hr h.2.2]

/-- A polled key-on clears the voice's bit of ENDX, and no other (R510). -/
theorem Dsp.pollVoice_endx_bit (k : Fin 8) : (d.pollVoice v).endx.getLsbD k =
    if k = v ∧ d.everyOther = true ∧ d.konNow.getLsbD v = true then false else d.endx.getLsbD k := by
  have hendx : (d.pollVoice v).endx = _ := d.pollVoice_reg v 0x7C
  rw [hendx]
  split
  · next h =>
    obtain ⟨hpoll, hkon, -⟩ := h
    simp only [getLsbD_withBit _ _ _ _ k.isLt, Fin.val_inj, hpoll, hkon, and_true]
  · next h => rw [if_neg fun hkey => h ⟨hkey.2.1, hkey.2.2, rfl⟩]; rfl

end

/-- Settles O51: the polling is one choice, read at the voice, at the other voices, at the registers and at ENDX. -/
theorem keyPolling : Obligations.KeyPolling := by
  unfold Obligations.KeyPolling
  intro d v t x
  refine ⟨(d.pollVoice_voice_same v).trans ?_, fun w hw => d.pollVoice_voice_ne v hw,
    fun r hr => d.pollVoice_reg_ne v hr, d.pollVoice_endx_bit v⟩
  cases d.everyOther
  · rfl
  cases d.konNow.getLsbD v
  · cases d.koffNow.getLsbD v
    · rfl
    · simp [x, Voice.keyOff, ite_not]
  · rfl

end Sys2Proof.Machine

/-! A silent voice, and what the mix says of the S-DSP (R543, R545, R561). -/

namespace Sys2Proof.Machine

open Sys2Proof

theorem envx_ne_outx : ∀ v : Fin 8, voiceReg v 8 ≠ voiceReg v 9 := by decide
theorem envx_ne_endx : ∀ v : Fin 8, voiceReg v 8 ≠ 0x7C := by decide
theorem outx_ne_endx : ∀ v : Fin 8, voiceReg v 9 ≠ 0x7C := by decide

/-- A voice without output, or muted, adds nothing (R561). -/
theorem Dsp.mixVoice_silent {d : Dsp} {mute : Byte} {v : Fin 8} (m : Mix)
    (h : (d.voice v).out = 0 ∨ mute.getLsbD v = true) : d.mixVoice mute v m = m := by
  have hl : (if mute.getLsbD v then 0 else (d.voice v).out.toInt * sext8 (d.volL v)) = 0 := by
    rcases h with h | h <;> simp [h]
  have hr : (if mute.getLsbD v then 0 else (d.voice v).out.toInt * sext8 (d.volR v)) = 0 := by
    rcases h with h | h <;> simp [h]
  simp only [Dsp.mixVoice, hl, hr, add_zero, ite_self]

section
variable (d : Dsp) (v : Fin 8)

/-- The key-on sequence keeps a level of 0 (R512). -/
theorem Dsp.keyOnVoice_level_zero (ram : Memory) (h : (d.voice v).level = 0) :
    ((d.keyOnVoice ram v).voice v).level = 0 := by
  unfold Dsp.keyOnVoice
  split
  · exact h
  · rw [Dsp.voice_setVoice, if_pos rfl]
    rfl

/-- At level 0 the voice's output, ENVX and OUTX are 0 (R543, R545). -/
theorem Dsp.emitVoice_level_zero (h : (d.voice v).level = 0) : ((d.emitVoice v).voice v).out = 0 ∧
    (d.emitVoice v).reg (voiceReg v 8) = 0 ∧ (d.emitVoice v).reg (voiceReg v 9) = 0 := by
  simp [Dsp.emitVoice, h, Dsp.voice_setVoice, Dsp.reg_setReg, envx_ne_outx v, hiByte]

/-! After its output a voice writes no register but ENDX (R502). -/

theorem Dsp.softResetVoice_reg (r : BitVec 7) : (d.softResetVoice v).reg r = d.reg r := by
  unfold Dsp.softResetVoice
  split <;> rfl

theorem Dsp.advanceBlock_reg_ne (ram : Memory) (header : Byte) {r : BitVec 7} (hr : r ≠ 0x7C) :
    (d.advanceBlock ram v header).reg r = d.reg r := by
  unfold Dsp.advanceBlock
  dsimp only
  split
  · split
    · split
      · rw [Dsp.reg_setReg, if_neg hr]
        rfl
      · rfl
    · rfl
  · rfl

theorem Dsp.pitchAndDecode_reg_ne (ram : Memory) (p : Nat) {r : BitVec 7} (hr : r ≠ 0x7C) :
    (d.pitchAndDecode ram v p).reg r = d.reg r := by
  unfold Dsp.pitchAndDecode
  dsimp only
  split
  · rw [Dsp.advanceBlock_reg_ne _ _ _ _ hr]
    rfl
  · rfl

theorem voiceTick_reg_ne (ram : Memory) (mute : Byte) (m : Mix) {r : BitVec 7} (hr : r ≠ 0x7C) :
    (voiceTick ram mute (d, m) v).1.reg r = ((d.keyOnVoice ram v).emitVoice v).reg r := by
  rw [voiceTick, Dsp.pitchAndDecode_reg_ne _ _ _ _ hr, Dsp.envVoice, Dsp.reg_setVoice, Dsp.pollVoice_reg_ne _ _ hr,
    Dsp.softResetVoice_reg]

end

/-- Settles O53: a level of 0 makes the output 0, and a voice without output or muted leaves the mix as it is. -/
theorem silentVoice : Obligations.SilentVoice := by
  unfold Obligations.SilentVoice
  intro ram mute d m v t
  have hzero (hlevel : (d.voice v).level = 0) := Dsp.emitVoice_level_zero _ v (d.keyOnVoice_level_zero v ram hlevel)
  refine ⟨fun h => ?_, fun hlevel => ?_⟩
  · have hmix : ((d.keyOnVoice ram v).emitVoice v).mixVoice mute v m = m :=
      Dsp.mixVoice_silent m (h.imp_left fun hlevel => (hzero hlevel).1)
    simp only [t, voiceTick, hmix, and_self]
  · obtain ⟨hout, henvx, houtx⟩ := hzero hlevel
    refine ⟨hout, ?_, ?_⟩
    · rw [voiceTick_reg_ne _ _ _ _ _ (envx_ne_endx v), henvx]
    · rw [voiceTick_reg_ne _ _ _ _ _ (outx_ne_endx v), houtx]

end Sys2Proof.Machine

/-! The mute mask does not reach the S-DSP (R561, R622). -/

namespace Sys2Proof.Machine

open Sys2Proof

/-- The same S-DSP and the same previous output: what the next voice looks at (R500, R537). -/
def SameForVoices (t u : Dsp × Mix) : Prop := t.1 = u.1 ∧ t.2.prevOut = u.2.prevOut

theorem sameForVoices_voiceTick (ram : Memory) (mute mute' : Byte) (v : Fin 8) {t u : Dsp × Mix}
    (h : SameForVoices t u) : SameForVoices (voiceTick ram mute t v) (voiceTick ram mute' u v) := by
  obtain ⟨hdsp, hprev⟩ := h
  simp only [SameForVoices, voiceTick, hdsp, hprev, and_self]

theorem runVoices_mute (ram : Memory) (mute mute' : Byte) (d : Dsp) :
    (runVoices ram mute d).1 = (runVoices ram mute' d).1 :=
  (List.foldl_rel (r := SameForVoices) ⟨rfl, rfl⟩ fun v _ _ _ h => sameForVoices_voiceTick ram mute mute' v h).1

theorem State.dspTick_dsp (s : State) : s.dspTick.dsp = s.afterVoices.1.readEcho s.ram := rfl

theorem Dsp.readEcho_flg (d : Dsp) (ram : Memory) : (d.readEcho ram).flg = d.flg := rfl

/-- A tick's S-DSP follows from RAM and the S-DSP before it (R500). -/
theorem State.dspTick_dsp_congr {s t : State} (hram : s.ram = t.ram) (hdsp : s.dsp = t.dsp) :
    s.dspTick.dsp = t.dspTick.dsp := by
  have hvoices : s.afterVoices.1 = t.afterVoices.1 := by
    rw [State.afterVoices, State.afterVoices, hram, hdsp]
    exact runVoices_mute ..
  rw [State.dspTick_dsp, State.dspTick_dsp, hvoices, hram]

/-- A tick keeps FLG: the echo unit writes no register (R560). -/
theorem State.dspTick_dsp_flg (s : State) : s.dspTick.dsp.flg = s.dsp.flg := by
  rw [State.dspTick_dsp, Dsp.readEcho_flg, State.afterVoices_flg]

/-- Without echo writes n ticks keep FLG and RAM (R571). -/
theorem State.dspTick_iterate_ram {s : State} (h : s.dsp.flg.getLsbD 5 = true) (j : Nat) :
    (State.dspTick^[j] s).dsp.flg.getLsbD 5 = true ∧ (State.dspTick^[j] s).ram = s.ram := by
  induction j with
  | zero => exact ⟨h, rfl⟩
  | succ j ih =>
    obtain ⟨hflg, hram⟩ := ih
    rw [Function.iterate_succ_apply']
    rw [State.dspTick_dsp_flg, State.dspTick_ram, if_pos hflg]
    exact ⟨hflg, hram⟩

/-- Settles O52: by induction on the ticks, from an equal RAM and S-DSP each leads to an equal S-DSP.-/
theorem muteDoesNotDisturb : Obligations.MuteDoesNotDisturb := by
  unfold Obligations.MuteDoesNotDisturb
  intro s mask
  refine ⟨State.dspTick_dsp_congr rfl rfl, fun j hflg => ?_⟩
  have hram (i : Nat) := (State.dspTick_iterate_ram hflg i).2
  have hram' (i : Nat) : (State.dspTick^[i] (s.muteVoices mask)).ram = s.ram :=
    (State.dspTick_iterate_ram (s := s.muteVoices mask) hflg i).2
  refine ⟨?_, hram' j, hram j⟩
  induction j with
  | zero => rfl
  | succ j ih =>
    rw [Function.iterate_succ_apply', Function.iterate_succ_apply']
    exact State.dspTick_dsp_congr ((hram' j).trans (hram j).symm) ih

end Sys2Proof.Machine

/-! The echo position (R565). -/

namespace Sys2Proof.Machine

open Sys2Proof

/-- Counting modulo m: at m the count returns to 0. -/
theorem succ_mod_eq_ite (j : Nat) {m : Nat} (hm : 0 < m) : (j + 1) % m = if j % m + 1 = m then 0 else j % m + 1 := by
  have hlt := Nat.mod_lt j hm
  rw [← Nat.mod_add_mod]
  split
  · next h => rw [h, Nat.mod_self]
  · exact Nat.mod_eq_of_lt (by omega)

/-- The echo position after j ticks from 0 with EDL = n, and the latched length while the position is not 0 (R565). -/
structure EchoAt (n j : Nat) (d : Dsp) : Prop where
  edl : d.edl.toNat % 16 = n
  offset : d.echoOffset = if n = 0 then 0 else 4 * j % (2048 * n)
  length : d.echoOffset ≠ 0 → d.echoLength = 2048 * n

theorem Dsp.advanceEcho_echoOffset (d : Dsp) : d.advanceEcho.echoOffset =
    if d.echoOffset + 4 ≥ d.advanceEcho.echoLength then 0 else d.echoOffset + 4 := rfl

namespace EchoAt

variable {n j : Nat} {d : Dsp} (h : EchoAt n j d)
include h

/-- The length in force at a tick is EDL's: latched at position 0, kept elsewhere. -/
theorem advanceEcho_echoLength : d.advanceEcho.echoLength = 2048 * n := by
  have hedl := h.edl
  unfold Dsp.advanceEcho
  dsimp only
  split
  · omega
  · next hpos => exact h.length hpos

theorem advanceEcho_echoOffset :
    d.advanceEcho.echoOffset = if n = 0 then 0 else 4 * (j + 1) % (2048 * n) := by
  rw [Dsp.advanceEcho_echoOffset, h.advanceEcho_echoLength, h.offset]
  by_cases hn : n = 0
  · simp [hn]
  · have hframes : 2048 * n = 4 * (512 * n) := by omega
    have hpos : 0 < 512 * n := by omega
    have hlt := Nat.mod_lt j hpos
    rw [if_neg hn, if_neg hn, hframes, Nat.mul_mod_mul_left, Nat.mul_mod_mul_left, succ_mod_eq_ite j hpos]
    split <;> split <;> omega

theorem advanceEcho : EchoAt n (j + 1) d.advanceEcho :=
  ⟨h.edl, h.advanceEcho_echoOffset, fun _ => h.advanceEcho_echoLength⟩

end EchoAt

/-- Settles O55: `EchoAt` holds at the start and every tick moves it on. -/
theorem echoPosition : Obligations.EchoPosition := by
  unfold Obligations.EchoPosition
  intro d j hstart n
  have hat : EchoAt n j (Dsp.advanceEcho^[j] d) := by
    induction j with
    | zero => exact ⟨rfl, by simp [hstart], fun hpos => absurd hstart hpos⟩
    | succ j ih =>
      rw [Function.iterate_succ_apply']
      exact ih.advanceEcho
  exact hat.offset

end Sys2Proof.Machine

/-! The timers (R661 to R663). -/

namespace Sys2Proof.Machine

open Sys2Proof

/-- A stage-1 tick of an enabled timer, on its divider and counter (R663). -/
def countTick (target : Byte) (t : Byte × BitVec 4) : Byte × BitVec 4 :=
  if t.1 + 1 = target then (0, t.2 + 1) else (t.1 + 1, t.2)

theorem timersOnly_timerStage2 (s : State) (k : Fin 3) : TimersOnly s (s.timerStage2 k) := by
  unfold State.timerStage2
  split
  · split <;> exact rfl
  · exact rfl

/-- Stage 2 counts its own timer, if that is enabled (R662, R663). -/
theorem State.timer_timerStage2 (s : State) (j k : Fin 3) : (s.timerStage2 j).timer k =
    if j = k ∧ s.io.control.getLsbD k = true then countTick s.io.tTarget[k] (s.timer k) else s.timer k := by
  unfold State.timerStage2
  by_cases hjk : j = k
  · subst hjk
    simp only [true_and, apply_ite (State.timer · j)]
    split
    · unfold countTick State.timer
      simp
    · rfl
  · have hne : (j : Nat) ≠ k := Fin.val_ne_of_ne hjk
    simp only [hjk, false_and, if_false]
    split
    · split <;> simp [State.timer, hne]
    · rfl

/-- Timers 0 and 1 in one cycle (R661). -/
def State.slowTimers (s : State) : State := if s.clk % 128 = 0 then (s.timerStage2 0).timerStage2 1 else s

theorem timersOnly_slowTimers (s : State) : TimersOnly s s.slowTimers := by
  unfold State.slowTimers
  split
  · exact (timersOnly_timerStage2 s 0).trans (timersOnly_timerStage2 _ 1)
  · exact rfl

theorem State.timer_slowTimers (s : State) (k : Fin 3) : s.slowTimers.timer k =
    if s.clk % 128 = 0 ∧ k ≠ 2 ∧ s.io.control.getLsbD k = true then countTick s.io.tTarget[k] (s.timer k)
    else s.timer k := by
  unfold State.slowTimers
  split
  · next hclk =>
    rw [State.timer_timerStage2, State.timer_timerStage2]
    fin_cases k <;> simp [hclk]
  · next hclk => rw [if_neg fun h => hclk h.1]

theorem State.timerCycle_eq (s : State) :
    s.timerCycle = if s.clk % 16 = 0 then s.slowTimers.timerStage2 2 else s.slowTimers := by
  have hclk : s.slowTimers.clk = s.clk := by rw [timersOnly_slowTimers s]
  rw [← hclk]
  rfl

theorem timersOnly_timerCycle (s : State) : TimersOnly s s.timerCycle := by
  rw [State.timerCycle_eq]
  split
  · exact (timersOnly_slowTimers s).trans (timersOnly_timerStage2 _ 2)
  · exact timersOnly_slowTimers s

/-- One cycle counts the enabled timers whose stage 1 ticks (R661). -/
theorem State.timer_timerCycle (s : State) (k : Fin 3) : s.timerCycle.timer k =
    if s.clk % (if k = 2 then 16 else 128) = 0 ∧ s.io.control.getLsbD k = true then
      countTick s.io.tTarget[k] (s.timer k)
    else s.timer k := by
  have hcontrol : s.slowTimers.io.control = s.io.control := by rw [timersOnly_slowTimers s]
  have htarget : s.slowTimers.io.tTarget = s.io.tTarget := by rw [timersOnly_slowTimers s]
  rw [State.timerCycle_eq, apply_ite (State.timer · k), State.timer_timerStage2, State.timer_slowTimers, hcontrol,
    htarget]
  by_cases hk : k = 2
  · subst hk
    simp [ite_and]
  · simp [hk, Ne.symm hk]

/-- Settles O45: a cycle counts the timers that tick, and touches dividers and counters only. -/
theorem timerCycle : Obligations.TimerCycle := by
  unfold Obligations.TimerCycle
  intro s k fires hit t
  have htimer : t.timer k = if fires then if hit then (0, s.io.tOut[k] + 1) else (s.io.tDiv[k] + 1, s.io.tOut[k])
      else (s.io.tDiv[k], s.io.tOut[k]) := s.timer_timerCycle k
  refine ⟨(congrArg Prod.fst htimer).trans ?_, (congrArg Prod.snd htimer).trans ?_, timersOnly_timerCycle s⟩
  · simp only [apply_ite Prod.fst]
  · simp only [apply_ite Prod.snd, ite_and]

/-- The ticks from one counter increment to the next: the target, 256 for target 0 (R663). -/
def timerPeriodOf (target : Byte) : Nat := if target = 0 then 256 else target.toNat

theorem timerPeriodOf_pos (target : Byte) : 0 < timerPeriodOf target := by
  unfold timerPeriodOf
  split
  · decide
  · next h => exact Nat.pos_of_ne_zero fun h0 => h (BitVec.eq_of_toNat_eq h0)

theorem timerPeriodOf_le (target : Byte) : timerPeriodOf target ≤ 256 := by
  unfold timerPeriodOf
  split
  · decide
  · exact target.isLt.le

/-- The divider reaches the target when a period is full (R663). -/
theorem divider_hits_iff {target : Byte} {r : Nat} (h : r < timerPeriodOf target) :
    BitVec.ofNat 8 r + 1 = target ↔ r + 1 = timerPeriodOf target := by
  have htarget := target.isLt
  have hsum : (BitVec.ofNat 8 r + 1).toNat = (r + 1) % 256 := Nat.mod_add_mod r 256 1
  rw [← BitVec.toNat_inj, hsum]
  unfold timerPeriodOf at h ⊢
  split at h
  · next h0 =>
    have hzero : target.toNat = 0 := congrArg BitVec.toNat h0
    rw [if_pos h0]
    omega
  · next h0 =>
    rw [if_neg h0]
    omega

/-- j stage-1 ticks from divider 0 (R663). -/
theorem countTick_iterate (target : Byte) (c : BitVec 4) (j : Nat) : (countTick target)^[j] (0, c) =
    (BitVec.ofNat 8 (j % timerPeriodOf target), c + BitVec.ofNat 4 (j / timerPeriodOf target)) := by
  have hpos := timerPeriodOf_pos target
  induction j with
  | zero => simp
  | succ j ih =>
    have hdvd : timerPeriodOf target ∣ j + 1 ↔ j % timerPeriodOf target + 1 = timerPeriodOf target := by
      rw [Nat.dvd_iff_mod_eq_zero, succ_mod_eq_ite j hpos]
      simp
    rw [Function.iterate_succ_apply', ih, countTick, succ_mod_eq_ite j hpos, Nat.succ_div]
    simp only [divider_hits_iff (Nat.mod_lt j hpos), hdvd]
    split
    · rw [BitVec.ofNat_add, add_assoc]
      rfl
    · rw [BitVec.ofNat_add]
      rfl

theorem State.timer_iterate_timerStage2 (s : State) (k : Fin 3) (h : s.io.control.getLsbD k = true) (j : Nat) :
    ((fun s : State => s.timerStage2 k)^[j] s).timer k = (countTick s.io.tTarget[k])^[j] (s.timer k) := by
  induction j generalizing s with
  | zero => rfl
  | succ j ih =>
    rw [Function.iterate_succ_apply, Function.iterate_succ_apply, ih _ (by simpa using h), State.timerStage2_io_tTarget,
      State.timer_timerStage2, if_pos ⟨rfl, h⟩]

/-- Settles O46: from divider 0 the divider is the count of ticks modulo the period, below 256. -/
theorem timerPeriod : Obligations.TimerPeriod := by
  unfold Obligations.TimerPeriod
  intro s k j hon hdiv n t
  have hstart : s.timer k = (0, s.io.tOut[k]) := by rw [State.timer, hdiv]
  have ht : t.timer k = (BitVec.ofNat 8 (j % n), s.io.tOut[k] + BitVec.ofNat 4 (j / n)) := by
    refine (s.timer_iterate_timerStage2 k hon j).trans ?_
    rw [hstart]
    exact countTick_iterate ..
  have hlt : j % n < 256 := (Nat.mod_lt j (timerPeriodOf_pos _)).trans_le (timerPeriodOf_le _)
  refine ⟨congrArg Prod.snd ht, ?_⟩
  have hdivider : t.io.tDiv[k] = BitVec.ofNat 8 (j % n) := congrArg Prod.fst ht
  rw [hdivider, BitVec.toNat_ofNat, Nat.mod_eq_of_lt hlt]

end Sys2Proof.Machine

/-! The ports and the mute mask (R620 to R622). -/

namespace Sys2Proof.Machine

open Sys2Proof

/-- Settles O58: the CPU reads port j at 0x00F4 + j. -/
theorem ports : Obligations.Ports := by
  unfold Obligations.Ports
  intro s k j v
  refine ⟨rfl, ?_, rfl, rfl⟩
  rw [State.peek_ioReg _ (ioReg_cpuio j), State.peek_ioReg _ (ioReg_cpuio j)]
  simp only [State.ioRead, State.writePort, Fin.getElem_fin, Vector.getElem_set, Fin.val_inj, eq_comm]

end Sys2Proof.Machine

/-! The machine after `reset` and `soft_reset` (R700, R701, R705). -/

namespace Sys2Proof.Machine

open Sys2Proof

theorem Dsp.reset_reg (r : BitVec 7) : Dsp.reset.reg r = if r = 0x6C then 0xE0 else 0x00 := by
  have hset := Dsp.reg_setReg { Dsp.reset with regs := Vector.replicate 128 0x00 } 0x6C r 0xE0
  exact hset.trans (by simp [Dsp.reg])

theorem Dsp.reset_voice (v : Fin 8) : Dsp.reset.voice v = Voice.reset := by
  simp [Dsp.reset, Dsp.voice]

/-- Settles O56: the fields of the reset values one by one. -/
theorem resets : Obligations.Resets := by
  unfold Obligations.Resets
  intro s
  refine ⟨⟨⟨rfl, rfl, rfl, rfl, rfl, rfl, rfl⟩, fun a => rfl, ⟨rfl, rfl, rfl⟩, fun k => ?_, fun k => ?_, rfl,
    Dsp.reset_reg, Dsp.reset_voice, ⟨rfl, rfl, rfl, rfl, rfl, rfl, rfl, rfl⟩, fun k => ?_, rfl, rfl, rfl⟩, rfl,
    fun r => s.dsp.reg_setReg 0x6C r 0xE0, fun k => ?_, rfl⟩
  · simp [State.hostReset, State.reset, Io.reset]
  · simp [State.hostReset, State.reset, Io.reset]
  · simp [State.hostReset, State.reset, Dsp.reset]
  · simp [State.softReset]

end Sys2Proof.Machine

/-! The host's operations keep the invariant (R612 to R622, R700). -/

namespace Sys2Proof.Machine

open Sys2Proof

theorem Voice.inv_reset : Voice.reset.Inv :=
  ⟨.inl rfl, .inl rfl, Nat.zero_le _, Nat.zero_le _, Nat.zero_le _, fun _ => rfl, rfl⟩

theorem Dsp.inv_reset : Dsp.reset.Inv where
  voice v := by rw [Dsp.reset_voice]; exact Voice.inv_reset
  rate := by decide
  noise := by decide
  frame := rfl
  unit := rfl
  length := Nat.zero_le _
  inside := .inl rfl

/-- Settles O42: every field has its reset value. -/
theorem resetKeepsInvariant : Obligations.ResetKeepsInvariant := by
  unfold Obligations.ResetKeepsInvariant
  exact ⟨State.wf_reset, fun hrun => absurd rfl hrun, rfl, Dsp.inv_reset⟩

theorem length_ramImage_le (bytes : List Byte) : (ramImage bytes).length ≤ 65536 := List.length_take_le ..

theorem State.inv_loadedState (s : State) (bytes : List Byte) : (s.loadedState bytes).Inv where
  ram := Memory.wf_ofImage (by simpa using length_ramImage_le bytes)
  run hrun := absurd rfl hrun
  test := rfl
  dsp := Dsp.inv_reset.withRegs _ _

/-- What an accepted file leaves (R612, R708). -/
theorem State.load_ok {s t : State} {bytes : List Byte} (h : s.load bytes = .ok t) : t = s.loadedState bytes := by
  unfold State.load at h
  split at h
  · cases h
  · split at h
    · cases h
    · exact (Except.ok.inj h).symm

/-- Settles O44: the resets and `load` start from the S-DSP after reset, the others touch no field of the invariant. -/
theorem hostKeepsInvariant : Obligations.HostKeepsInvariant := by
  unfold Obligations.HostKeepsInvariant
  intro s t bytes k v h
  have hreset : State.reset.Inv := resetKeepsInvariant
  refine ⟨{ hreset with }, ?_, fun hload => ?_, { h with }, { h with }⟩
  · exact ⟨h.ram, hreset.run, rfl, Dsp.inv_reset.withRegs _ _⟩
  · rw [State.load_ok hload]
    exact s.inv_loadedState bytes

end Sys2Proof.Machine

/-! `load` (R612, R613, R708). -/

namespace Sys2Proof.Machine

open Sys2Proof

/-- The signature's bytes, in ASCII (R612). -/
theorem signature_eq : signature =
    [0x53, 0x4E, 0x45, 0x53, 0x2D, 0x53, 0x50, 0x43, 0x37, 0x30, 0x30, 0x20, 0x53, 0x6F, 0x75, 0x6E, 0x64, 0x20, 0x46,
     0x69, 0x6C, 0x65, 0x20, 0x44, 0x61, 0x74, 0x61] := by
  decide

/-- A byte of the RAM image stands 0x100 later in the file (R613). -/
theorem imageByte_add (bytes : List Byte) (a k : Nat) : imageByte bytes (a + k) = bytes.getD (0x100 + a + k) 0 := by
  rw [imageByte, Nat.add_assoc]

theorem read_ofImage_ramImage (bytes : List Byte) {a : Nat} (ha : a < 65536) :
    (Memory.ofImage 0 (ramImage bytes)).read a = bytes.getD (0x100 + a) 0 := by
  rw [Memory.read_ofImage, if_pos (Nat.zero_le a), Nat.sub_zero, ramImage, List.getD_eq_getElem?_getD,
    List.getElem?_take_of_lt ha, List.getElem?_drop, List.getD_eq_getElem?_getD]

theorem Dsp.loadedDsp_reg (bytes : List Byte) (r : BitVec 7) :
    (loadedDsp bytes).reg r = bytes.getD (0x10100 + r.toNat) 0 := by
  simp [loadedDsp, Dsp.reg]

theorem loadedIo_ports (bytes : List Byte) (k : Fin 4) :
    (loadedIo bytes).cpuioIn[k] = bytes.getD (0x1F4 + k) 0 ∧ (loadedIo bytes).cpuioOut[k] = bytes.getD (0x1F4 + k) 0 := by
  simp [loadedIo, imageByte_add]

theorem loadedIo_timers (bytes : List Byte) (k : Fin 3) : (loadedIo bytes).tTarget[k] = bytes.getD (0x1FA + k) 0 ∧
    (loadedIo bytes).tDiv[k] = 0x00 ∧ ((loadedIo bytes).tOut[k]).toNat = (bytes.getD (0x1FD + k) 0).toNat % 16 := by
  simp [loadedIo, imageByte_add]

/-- Settles O57: the two tests in their order, then the fields of R708 one by one. -/
theorem load : Obligations.Load := by
  unfold Obligations.Load
  intro s bytes byte good
  have haccept : good ↔ ¬ (bytes.length < 27 ∨ bytes.take 27 ≠ signature) := by
    rw [signature_eq, not_or, Nat.not_lt, not_not]
  refine ⟨fun hbad => ?_, fun hg hshort => ?_, fun hg hlong => ⟨s.loadedState bytes, ?_, rfl,
    fun a ha => read_ofImage_ramImage bytes ha, ⟨rfl, rfl, rfl⟩, loadedIo_ports bytes, loadedIo_timers bytes,
    Dsp.loadedDsp_reg bytes, rfl, rfl⟩⟩
  · rw [State.load, if_pos (not_not.1 fun h => hbad (haccept.2 h))]
  · rw [State.load, snapshotSize, if_neg (haccept.1 hg), if_pos hshort]
  · rw [State.load, snapshotSize, if_neg (haccept.1 hg), if_neg (Nat.not_lt.2 hlong)]

end Sys2Proof.Machine

/-! The loop of `play`: it ends, and it composes (R602 to R605). -/

namespace Sys2Proof.Machine

open Sys2Proof

/-- A step that sets no fault leaves the CPU running: SLEEP and STOP set one (R602, R655). -/
theorem runnable_of_step {s t : State} (h : s.runnable) (hstep : step s = .next t) (hfault : t.fault = none) :
    t.runnable := by
  obtain ⟨i, u, hexec, rfl⟩ := step_cases hstep
  rw [State.runClock_fault] at hfault
  refine ⟨by rwa [State.runClock_fault], ?_⟩
  rw [State.runClock_cpu]
  rcases exec_cases hexec with hacts | ⟨-, rfl⟩ | ⟨-, rfl⟩
  · refine hacts.induct (p := fun u => u.cpu.run = .running) ?_ fun u v hact hu => hact.cpu_run.trans hu
    exact (congrArg Cpu.run (State.passOperand_cpu s)).trans h.2
  · cases hfault
  · cases hfault

theorem step_lifecycle {s t : State} (h : step s = .next t) : t.lifecycle = s.lifecycle := by
  obtain ⟨i, u, hexec, rfl⟩ := step_cases h
  rw [State.runClock_lifecycle, (exec_instrFrame hexec).lifecycle]
  exact State.passOperand_lifecycle s

@[simp] theorem playLoop_zero (fuel : Nat) (s : State) :
    playLoop fuel 0 s = { state := s, frames := [], result := .ok } := by
  cases fuel <;> rfl

/-- The loop stops at a step that sets a fault (R603). -/
theorem playLoop_of_fault {s t : State} {r : EmuFault} (fuel need : Nat) (hstep : step s = .next t)
    (hfault : t.fault = some r) :
    playLoop (fuel + 1) (need + 1) s = { state := t, frames := t.frame.toList, result := .err r } := by
  simp only [playLoop, hstep, hfault]

/-- A step without a fault, and the rest of the loop (R603). -/
theorem playLoop_of_next {s t : State} (fuel need : Nat) (hstep : step s = .next t) (hfault : t.fault = none) :
    playLoop (fuel + 1) (need + 1) s =
      (playLoop fuel (if t.frame.isSome then need else need + 1) t).after t.frame := by
  simp only [playLoop, hstep, hfault]

/-- The two ways a loop that needs n frames ends (R603). -/
def Run.Ends (n : Nat) (r : Run) : Prop :=
  (r.result = .ok ∧ r.frames.length = n ∧ r.state.runnable) ∨
    ∃ e, r.result = .err e ∧ r.state.fault = some e ∧ r.frames.length ≤ n

theorem Run.Ends.after {n : Nat} {r : Run} (h : r.Ends n) (f : Option Frame) :
    (r.after f).Ends (f.toList.length + n) := by
  have hlength : (r.after f).frames.length = f.toList.length + r.frames.length := List.length_append
  rcases h with ⟨hok, hframes, hrun⟩ | ⟨e, herr, hfault, hframes⟩
  · exact .inl ⟨hok, by omega, hrun⟩
  · exact .inr ⟨e, herr, hfault, by omega⟩

theorem Run.Ends.not_stuck {n : Nat} {r : Run} (h : r.Ends n) : r.result ≠ .stuck := by
  rcases h with ⟨hok, -⟩ | ⟨e, herr, -⟩
  · rw [hok]; nofun
  · rw [herr]; nofun

/-- An Ok run leaves a runnable state and has all its frames (R603). -/
theorem Run.Ends.of_ok {n : Nat} {r : Run} (h : r.Ends n) (hok : r.result = .ok) :
    r.frames.length = n ∧ r.state.runnable := by
  rcases h with ⟨-, h⟩ | ⟨e, herr, -⟩
  · exact h
  · rw [hok] at herr
    cases herr

/-- A step takes 2 cycles at least, so 16 steps emit a frame: with enough fuel the loop ends (R601, R721). -/
theorem playLoop_ends (fuel need : Nat) (s : State) (h : s.runnable) (hfuel : 32 * need ≤ 2 * fuel + s.clk % 32) :
    (playLoop fuel need s).Ends need := by
  induction fuel generalizing need s with
  | zero =>
    obtain rfl : need = 0 := by omega
    exact .inl ⟨rfl, rfl, h⟩
  | succ fuel ih =>
    cases need with
    | zero => exact .inl ⟨rfl, rfl, h⟩
    | succ need =>
      obtain ⟨t, hstep⟩ := (stepOutcomes s).1 h
      obtain ⟨hclk, ⟨hmin, hmax⟩, hframe⟩ := step_clk_frame hstep
      cases hfault : t.fault with
      | some r =>
        rw [playLoop_of_fault fuel need hstep hfault]
        exact .inr ⟨r, rfl, hfault, Option.length_toList_le.trans (Nat.le_add_left 1 need)⟩
      | none =>
        rw [playLoop_of_next fuel need hstep hfault]
        have hrun := runnable_of_step h hstep hfault
        cases hemit : t.frame with
        | none =>
          simp only [hemit, Option.isSome_none, Bool.false_eq_true, false_iff] at hframe ⊢
          simpa using (ih (need + 1) t hrun (by omega)).after none
        | some f =>
          simp only [hemit, Option.isSome_some, true_iff] at hframe ⊢
          simpa [Nat.add_comm] using (ih need t hrun (by omega)).after (some f)

/-- A loop that is not stuck took a step where it needed one. -/
theorem exists_step_of_playLoop {fuel need : Nat} {s : State} (h : (playLoop (fuel + 1) (need + 1) s).result ≠ .stuck) :
    ∃ t, step s = .next t := by
  cases hstep : step s with
  | next t => exact ⟨t, rfl⟩
  | fault r => simp [playLoop, hstep] at h
  | refused r => simp [playLoop, hstep] at h

theorem playLoop_lifecycle (fuel need : Nat) (s : State) : (playLoop fuel need s).state.lifecycle = s.lifecycle := by
  induction fuel generalizing need s with
  | zero => cases need <;> rfl
  | succ fuel ih =>
    cases need with
    | zero => rfl
    | succ need =>
      cases hstep : step s with
      | fault r => simp [playLoop, hstep]
      | refused r => simp [playLoop, hstep]
      | next t =>
        cases hfault : t.fault with
        | some r =>
          rw [playLoop_of_fault fuel need hstep hfault]
          exact step_lifecycle hstep
        | none =>
          rw [playLoop_of_next fuel need hstep hfault]
          exact (ih _ t).trans (step_lifecycle hstep)

/-- More fuel does not change a loop that is not stuck (log entry 11). -/
theorem playLoop_add_fuel {fuel need : Nat} {s : State} (h : (playLoop fuel need s).result ≠ .stuck) (more : Nat) :
    playLoop (fuel + more) need s = playLoop fuel need s := by
  induction fuel generalizing need s with
  | zero =>
    cases need with
    | zero => simp
    | succ need => exact absurd rfl h
  | succ fuel ih =>
    cases need with
    | zero => simp
    | succ need =>
      obtain ⟨t, hstep⟩ := exists_step_of_playLoop h
      rw [Nat.add_right_comm]
      cases hfault : t.fault with
      | some r => rw [playLoop_of_fault _ _ hstep hfault, playLoop_of_fault _ _ hstep hfault]
      | none =>
        rw [playLoop_of_next _ _ hstep hfault] at h ⊢
        rw [playLoop_of_next _ _ hstep hfault, ih h]

/-- A run followed by another from the state it left (R605). -/
def Run.andThen (r q : Run) : Run := { q with frames := r.frames ++ q.frames }

theorem Run.after_andThen (r q : Run) (f : Option Frame) : (r.after f).andThen q = (r.andThen q).after f := by
  simp only [Run.after, Run.andThen, List.append_assoc]

/-- Two loops in a row are one (R605). -/
theorem playLoop_add {fuel fuel' need need' : Nat} {s : State} (hok : (playLoop fuel need s).result = .ok)
    (hend : (playLoop fuel' need' (playLoop fuel need s).state).result ≠ .stuck) :
    playLoop (fuel + fuel') (need + need') s =
      (playLoop fuel need s).andThen (playLoop fuel' need' (playLoop fuel need s).state) := by
  induction fuel generalizing need s with
  | zero =>
    cases need with
    | zero => simp only [Nat.zero_add]; rfl
    | succ need => cases hok
  | succ fuel ih =>
    cases need with
    | zero =>
      rw [playLoop_zero] at hend ⊢
      rw [Nat.zero_add, Nat.add_comm, playLoop_add_fuel hend]
      rfl
    | succ need =>
      obtain ⟨t, hstep⟩ := exists_step_of_playLoop (by rw [hok]; nofun)
      rw [Nat.add_right_comm fuel, Nat.add_right_comm need]
      cases hfault : t.fault with
      | some r =>
        rw [playLoop_of_fault _ _ hstep hfault] at hok
        cases hok
      | none =>
        rw [playLoop_of_next _ _ hstep hfault] at hok hend ⊢
        have hneed : (if t.frame.isSome then need + need' else need + need' + 1) =
            (if t.frame.isSome then need else need + 1) + need' := by
          split <;> omega
        rw [playLoop_of_next _ _ hstep hfault, hneed, ih hok hend, Run.after_andThen]
        rfl

/-- `play` from a runnable state is the loop (R603). -/
theorem State.play_of_runnable {s : State} (h : s.runnable) (n : Nat) :
    s.play n = playLoop (16 * (n / 2)) (n / 2) { s with lifecycle := .running } := by
  rw [State.play, h.1]

theorem State.play_ends {s : State} (h : s.runnable) (n : Nat) : (s.play n).Ends (n / 2) := by
  rw [State.play_of_runnable h]
  exact playLoop_ends _ _ { s with lifecycle := .running } h (by omega)

/-- Settles O59: the loop's fuel is 16 steps a frame, which is enough. -/
theorem playEnds : Obligations.PlayEnds := by
  unfold Obligations.PlayEnds
  intro s n h
  exact ⟨(State.play_ends h n).imp_left fun ⟨hok, hframes, hrun⟩ => ⟨hok, hframes, hrun.1⟩, rfl, rfl⟩

theorem State.play_lifecycle {s : State} (h : s.runnable) (n : Nat) : (s.play n).state.lifecycle = .running := by
  rw [State.play_of_runnable h, playLoop_lifecycle]

/-- `play` for n and then m samples, both even (R605). -/
theorem State.play_add {s : State} {n m : Nat} (h : s.runnable) (hn : n % 2 = 0) (hm : m % 2 = 0)
    (hok : (s.play n).result = .ok) : s.play (n + m) = (s.play n).andThen ((s.play n).state.play m) := by
  have hrun := ((State.play_ends h n).of_ok hok).2
  have hplay : (s.play n).state.play m = playLoop (16 * (m / 2)) (m / 2) (s.play n).state := by
    rw [State.play_of_runnable hrun, ← State.play_lifecycle h n]
  have hend := (State.play_ends hrun m).not_stuck
  have hhalf : (n + m) / 2 = n / 2 + m / 2 := by omega
  rw [hplay] at hend ⊢
  rw [State.play_of_runnable h] at hok hend ⊢
  rw [State.play_of_runnable h, hhalf, Nat.mul_add, playLoop_add hok hend]

/-- Settles O60: the two loops are one, and the frames of the first are its first n / 2. -/
theorem playComposes : Obligations.PlayComposes := by
  unfold Obligations.PlayComposes
  intro s n m h hn hm hok
  have hzero : s.play 0 = { state := { s with lifecycle := .running }, frames := [], result := .ok } := by
    rw [State.play_of_runnable h, playLoop_zero]
  have hadd := State.play_add h hn hm hok
  refine ⟨by rw [hzero], by rw [hzero], by rw [hzero], hadd, ?_⟩
  rw [hadd]
  exact (List.drop_left' ((State.play_ends h n).of_ok hok).1).symm

end Sys2Proof.Machine
